-- ==== Sys2Proof/Word.lean ====
section
/-! DEFINITION. The widths CAN-FFA uses (spec/00_scope.md R6, R7): words of 32 bits, encoded identifiers of 16, CAN
identifiers of 11, payload bytes of 8. All values are unsigned (R7). -/

namespace Sys2Proof

/-- A command or event word (R71), a handle (R24), an error bitmap (R38): 32 bits. -/
abbrev Word := BitVec 32

/-- An encoded identifier or mask (R22, R23): 16 bits. -/
abbrev Encoded := BitVec 16

/-- A CAN identifier or an identifier mask as the operation words carry it (R74): 11 bits. -/
abbrev CanId := BitVec 11

/-- One payload byte. -/
abbrev Byte := BitVec 8

/-- A slot index as the words carry it (R51): 0..255. -/
abbrev SlotIndex := BitVec 8

/-- The eight payload bytes; byte 0 is the first on the wire (R53). -/
abbrev Payload := Vector Byte 8

/-- The payload of a cleared row (R45). -/
def zeroPayload : Payload := Vector.replicate 8 0

end Sys2Proof
end

