-- ==== Sys2Proof/Machine/ModuleState.lean ====
section
/-! DEFINITION. The Module State of spec/10_state.md (R20 to R45) as plain data, and the records and names of the result
port and the collaborator ports (spec/60_exceptions.md R170, R183 to R185). -/

namespace Sys2Proof.Machine

/-- One row of the receive table (R21). `ctx` and `cb` are opaque handles, 0 is null (R24). -/
structure RxSlot where
  ident : Encoded
  mask : Encoded
  ctx : Word
  cb : Word
  deriving DecidableEq, Repr, Inhabited

/-- A cleared receive row (R45, R151). -/
def RxSlot.zero : RxSlot := ⟨0, 0, 0, 0⟩

/-- One row of the transmit table (R27). -/
structure TxSlot where
  ident : Encoded
  dlc : BitVec 4
  data : Payload
  full : Bool
  syncFlag : Bool
  deriving DecidableEq, Repr, Inhabited

/-- A cleared transmit row (R45, R151). -/
def TxSlot.zero : TxSlot := ⟨0, 0, zeroPayload, false, false⟩

/-- A frame as `HTI.write` receives it (R109) and as `rxBuf` holds it (R43). -/
structure Frame where
  id : CanId
  rtr : Bool
  dlc : BitVec 4
  data : Payload
  deriving DecidableEq, Repr, Inhabited

/-- The frame of zeros. -/
def Frame.zero : Frame := ⟨0, false, 0, zeroPayload⟩

/-- The one aggregate that holds all state of the block (R20), with the registers and flags of spec/10_state.md section 4. -/
structure ModuleState where
  /-- R21: the receive table, one entry per physical row. -/
  rx : List RxSlot
  /-- R27: the transmit table, one entry per physical row. -/
  tx : List TxSlot
  /-- R33. -/
  pendingTransmitCount : BitVec 16
  /-- R36. -/
  normalModeActive : Bool
  /-- R37. -/
  hardwareFilteringEnabled : Bool
  /-- R34. -/
  syncAbortPending : Bool
  /-- R35. -/
  firstFrameSent : Bool
  /-- R38. -/
  lastErrorBitmap : Word
  /-- R39. -/
  passiveActive : Bool
  /-- R41. -/
  rxCap : BitVec 9
  /-- R41. -/
  txCap : BitVec 9
  /-- R42. -/
  prescaler : Word
  /-- R43. -/
  rxBuf : Frame
  /-- R43. -/
  rxBusy : Bool
  /-- R45. -/
  initialised : Bool
  deriving DecidableEq, Repr, Inhabited

/-- The result codes of the result port (R170). -/
inductive Result where
  | ok
  | illegalArgument
  | illegalBaudRate
  | hardwareFailure
  | transmitOverflow
  deriving DecidableEq, Repr

/-- The conditions of the emergency sink (R184). -/
inductive Condition where
  | busOff
  | busWarning
  | busPassive
  | receiveOverflow
  | transmitOverflow
  | syncWindowMissed
  deriving DecidableEq, Repr

/-- The format argument of `HTI.setFilter` (R123): 11-bit identifiers only. -/
inductive FrameFormat where
  | standard
  deriving DecidableEq, Repr

/-- What CAN-FFA puts on its ports: a request to HTI (R183), a call to EM (R184), the call to the consumer (R185), or a
result code (R170). -/
inductive Output where
  | htiDisable
  | htiEnable
  | htiTxFree
  | htiWrite (frame : Frame)
  | htiSetFilter (format : FrameFormat) (pattern mask : CanId)
  | htiErrors
  | emReport (condition : Condition) (subcode value : Word)
  | emReset (condition : Condition) (value : Word)
  | cbInvoke (cb ctx : Word) (frame : Frame)
  | result (code : Result)
  deriving DecidableEq, Repr

end Sys2Proof.Machine
end

