-- ==== Sys2Proof/Config.lean ====
section
/-! DEFINITION. The parameters of one CAN-FFA (spec/00_scope.md R6) and the free values: constants without a body, so that
nothing can be proved of what they are. -/

namespace Sys2Proof

open Sys2Proof.Machine

/-- The recognised bit-rates (R6 `RATES`). -/
inductive Rate where
  | r1000
  | r500
  | r250
  | r125
  | r100
  | r50
  | r20
  | r10
  deriving DecidableEq, Repr

/-- `MASK_RTR` (R6, D6): how REGRX forms bit 1 of the stored mask. -/
inductive MaskRtr where
  | fold
  | alwaysOne
  deriving DecidableEq, Repr

/-- `RX_NULL_CB` (R6, D7): what the scan does at a row whose callback is null. -/
inductive RxNullCb where
  | matchAndDrop
  | skip
  deriving DecidableEq, Repr

/-- `PASSIVE_CLEARS` (R6, D19): which overflow condition is reset on passive recovery. -/
inductive PassiveClears where
  | transmitOverflow
  | receiveOverflow
  deriving DecidableEq, Repr

/-- DESIGN CHOICE (log entry 2): what the model does where the spec says "a model must `refuse`" (R11) and gives the whole
literal hardware behaviour beside the word (R102, R104, R199). -/
inductive UsagePolicy where
  /-- The literal hardware behaviour the spec gives beside the word. -/
  | literal
  /-- The refusal R11 asks of a model. -/
  | refuse
  deriving DecidableEq, Repr

/-- The parameters that decide something (R6). They stand in State and no step changes them, so that a claim about every
state is a claim for every value of them (log entry 1). -/
structure Params where
  /-- `RX_MAX`, 0..256. -/
  rxMax : Fin 257
  /-- `TX_MAX`, 0..256. -/
  txMax : Fin 257
  maskRtr : MaskRtr
  rxNullCb : RxNullCb
  passiveClears : PassiveClears
  usage : UsagePolicy
  deriving DecidableEq, Repr

/-- R6's defaults and R11's refusals; `RX_MAX` = `TX_MAX` = 8 as spec/95_test_vectors.md sets them (DESIGN CHOICE, log
entry 1). -/
def Params.default : Params := ⟨8, 8, .fold, .matchAndDrop, .transmitOverflow, .refuse⟩

/-- `PRESCALER[r]`: OPEN (R6, R42, R153). The width is a DESIGN CHOICE (log entry 13). -/
opaque Config.prescaler : Rate → Word

/-- `SUBCODE[c]`: OPEN (R6, R149, R184). The width is a DESIGN CHOICE (log entry 13). -/
opaque Config.subcode : Condition → Word

/-- The answer of `HTI.enable` when the environment has supplied none (R182: a free draw; log entry 5). -/
opaque Config.freeEnable : Nat → Bool

/-- The answer of `HTI.txFree` when the environment has supplied none (R182; log entry 5). -/
opaque Config.freeTxFree : Nat → Bool

/-- The answer of `HTI.write` when the environment has supplied none (R182; log entry 5). -/
opaque Config.freeWrite : Nat → Bool

/-- The answer of `HTI.errors` when the environment has supplied none (R182; log entry 5). -/
opaque Config.freeErrors : Nat → Word

/-- Whether the event is taken first when a command and an event are ready together (R177; log entry 7). -/
opaque Config.eventFirst : Nat → Bool

/-- The Module State a failed INIT leaves, but for `initialised` (R154; log entry 4). -/
opaque Config.unspecifiedModule : Nat → ModuleState

end Sys2Proof
end

