-- ==== Sys2Proof/Syntax.lean ====
section
/-! DEFINITION. The thirteen operations of spec/30_encoding.md R72, one constructor per row of spec/opcode_table.json, with
the port each belongs to, the assembler's names for it (R87, R88) and the pseudo-operation SENDD. -/

namespace Sys2Proof

/-- The two input ports (R70): commands come from the task/poll context, events from the interrupt context. -/
inductive Port where
  | command
  | event
  deriving DecidableEq, Repr

/-- An operation with its operand fields as the words carry them (R74 to R81), unsigned and unshifted (R82). -/
inductive Instr where
  /-- INIT, format I (R81). -/
  | init (txs rxs : Bool) (rate : BitVec 16) (txcap rxcap : BitVec 16)
  /-- SETNORMAL, format N (R75). -/
  | setnormal
  /-- DISABLE, format N (R75). -/
  | disable
  /-- REGRX, format R (R78). -/
  | regrx (idx : SlotIndex) (rtr : Bool) (id mask : CanId) (ctx cb : Word)
  /-- REGTX, format T (R77). -/
  | regtx (sync : Bool) (idx : SlotIndex) (rtr : Bool) (dlc : BitVec 4) (id : CanId)
  /-- TXDATA, format D (R79). -/
  | txdata (idx : SlotIndex) (data : Payload)
  /-- SEND, format X (R76). -/
  | send (idx : SlotIndex)
  /-- DRAIN, format N (R75). -/
  | drain
  /-- ABORTSYNC, format N (R75). -/
  | abortsync
  /-- CHECKERR, format N (R75). -/
  | checkerr
  /-- RXFRAME, format F (R80). -/
  | rxframe (rtr : Bool) (dlc : BitVec 4) (id : CanId) (data : Payload)
  /-- TXCONF, format N (R75). -/
  | txconf
  /-- CBRET, format N (R75). -/
  | cbret
  deriving DecidableEq, Repr

/-- The port an operation belongs to (R72, R84). -/
def Instr.port : Instr → Port
  | .init _ _ _ _ _ => .command
  | .setnormal => .command
  | .disable => .command
  | .regrx _ _ _ _ _ _ => .command
  | .regtx _ _ _ _ _ => .command
  | .txdata _ _ => .command
  | .send _ => .command
  | .drain => .command
  | .abortsync => .command
  | .checkerr => .command
  | .rxframe _ _ _ _ => .event
  | .txconf => .event
  | .cbret => .event

/-- The mnemonic of R72 and R87. -/
def Instr.mnemonic : Instr → String
  | .init _ _ _ _ _ => "INIT"
  | .setnormal => "SETNORMAL"
  | .disable => "DISABLE"
  | .regrx _ _ _ _ _ _ => "REGRX"
  | .regtx _ _ _ _ _ => "REGTX"
  | .txdata _ _ => "TXDATA"
  | .send _ => "SEND"
  | .drain => "DRAIN"
  | .abortsync => "ABORTSYNC"
  | .checkerr => "CHECKERR"
  | .rxframe _ _ _ _ => "RXFRAME"
  | .txconf => "TXCONF"
  | .cbret => "CBRET"

/-- The second name R88 gives the operation, where it gives one. -/
def Instr.docName : Instr → Option String
  | .init _ _ _ _ _ => some "initialize"
  | .setnormal => some "set-normal-mode"
  | .disable => some "disable"
  | .regrx _ _ _ _ _ _ => some "register-receive-slot"
  | .regtx _ _ _ _ _ => some "register-transmit-slot"
  | .txdata _ _ => none
  | .send _ => some "send"
  | .drain => some "poll-transmit"
  | .abortsync => some "abort-synchronous-transmits"
  | .checkerr => some "check-errors"
  | .rxframe _ _ _ _ => none
  | .txconf => none
  | .cbret => none

/-- The pseudo-operation SENDD (R88): TXDATA, then SEND; an event may fall between the two. -/
def sendd (idx : SlotIndex) (data : Payload) : List Instr :=
  [.txdata idx data, .send idx]

/-- An operation presented at a port. -/
structure Request where
  port : Port
  op : Instr
  deriving DecidableEq, Repr

end Sys2Proof
end

