-- ==== Sys2Proof/WellFormed.lean ====
section
/-! DEFINITION. When an operation presented at a port is well formed (spec/30_encoding.md R84). Every value of every operand
field has an encoding (R82, R86), so the fields' types carry all other form: an argument that is out of range is no encoding
error, it is handled by the operation's own rule (R86). -/

namespace Sys2Proof

/-- R84: a command is presented at the command port and an event at the event port. -/
def Request.wellFormed (r : Request) : Bool :=
  decide (r.op.port = r.port)

/-- A host program for one port is well formed when each of its requests is, and all are for that port. -/
def programWellFormed (p : Port) (ops : List Instr) : Bool :=
  ops.all fun i => Request.wellFormed ⟨p, i⟩

end Sys2Proof
end

