-- ==== Sys2Proof/Decode.lean ====
section
/-! DEFINITION. Decoding and encoding of operations (spec/30_encoding.md R71 to R86 and its table of match and mask of W0).
The decoder is total on any list of words and rejects by name. -/

namespace Sys2Proof

/-- Why the words at the head of a port are no operation. -/
inductive DecodeError where
  /-- No word is there. -/
  | empty
  /-- Not all words of the operation are there yet (R85): the port waits. -/
  | truncated
  /-- The opcode is 0x0, 0xB or 0xF (R72, R83). -/
  | reservedOpcode
  /-- The opcode is assigned and a reserved bit of some word is 1 (R73, R83). -/
  | reservedBits
  /-- A command opcode at the event port, or an event opcode at the command port (R84). -/
  | wrongPort
  deriving DecidableEq, Repr

/-- W0[31:28] (R71). -/
def opcodeOf (w0 : Word) : BitVec 4 := w0.extractLsb' 28 4

/-- The length in words, a function of the opcode alone (R85). -/
def opLength (w0 : Word) : Nat :=
  if opcodeOf w0 = 0x1 then 2
  else if opcodeOf w0 = 0x4 then 4
  else if opcodeOf w0 = 0x6 then 3
  else if opcodeOf w0 = 0xC then 3
  else 1

/-- Opcodes 0x0, 0xB and 0xF are reserved (R72). -/
def opcodeReserved (w0 : Word) : Bool :=
  opcodeOf w0 == 0x0 || opcodeOf w0 == 0xB || opcodeOf w0 == 0xF

/-- A row of the table "Match and mask of W0" of spec/30_encoding.md section 5. -/
structure EncodingRow where
  base : Word
  mask : Word
  deriving DecidableEq, Repr

/-- "A W0 `w` selects the row with `w & mask == match`" (section 5). -/
def EncodingRow.selects (r : EncodingRow) (w0 : Word) : Bool := w0 &&& r.mask == r.base

def rowInit : EncodingRow := ⟨0x10000000, 0xFFFC0000⟩
def rowSetnormal : EncodingRow := ⟨0x20000000, 0xFFFFFFFF⟩
def rowDisable : EncodingRow := ⟨0x30000000, 0xFFFFFFFF⟩
def rowRegrx : EncodingRow := ⟨0x40000000, 0xFF007800⟩
def rowRegtx : EncodingRow := ⟨0x50000000, 0xFE000000⟩
def rowTxdata : EncodingRow := ⟨0x60000000, 0xFF00FFFF⟩
def rowSend : EncodingRow := ⟨0x70000000, 0xFF00FFFF⟩
def rowDrain : EncodingRow := ⟨0x80000000, 0xFFFFFFFF⟩
def rowAbortsync : EncodingRow := ⟨0x90000000, 0xFFFFFFFF⟩
def rowCheckerr : EncodingRow := ⟨0xA0000000, 0xFFFFFFFF⟩
def rowRxframe : EncodingRow := ⟨0xC0000000, 0xFFFF0000⟩
def rowTxconf : EncodingRow := ⟨0xD0000000, 0xFFFFFFFF⟩
def rowCbret : EncodingRow := ⟨0xE0000000, 0xFFFFFFFF⟩

/-- The table of section 5, in its order. -/
def encodingTable : List EncodingRow :=
  [rowInit, rowSetnormal, rowDisable, rowRegrx, rowRegtx, rowTxdata, rowSend, rowDrain, rowAbortsync, rowCheckerr,
    rowRxframe, rowTxconf, rowCbret]

/-- W1[31:11] of REGRX are reserved (R78, R83). -/
def regrxW1Reserved : Word := 0xFFFFF800

/-- `IDX`, W0[23:16] (R74). -/
def fieldIdx (w0 : Word) : SlotIndex := w0.extractLsb' 16 8
/-- `RTR`, W0[15] (R74). -/
def fieldRtr (w0 : Word) : Bool := w0.getLsbD 15
/-- `DLC`, W0[14:11] (R74). -/
def fieldDlc (w0 : Word) : BitVec 4 := w0.extractLsb' 11 4
/-- `ID` of W0, or `MASK` of REGRX's W1: bits 10:0 (R74, R78). -/
def fieldId (w : Word) : CanId := w.extractLsb' 0 11

/-- The payload of W1 = {B3, B2, B1, B0} and W2 = {B7, B6, B5, B4} (R53, R79, R80). -/
def unpackPayload (w1 w2 : Word) : Payload :=
  #v[w1.extractLsb' 0 8, w1.extractLsb' 8 8, w1.extractLsb' 16 8, w1.extractLsb' 24 8,
    w2.extractLsb' 0 8, w2.extractLsb' 8 8, w2.extractLsb' 16 8, w2.extractLsb' 24 8]

/-- {b3, b2, b1, b0} as one word (R53). -/
def packBytes (b0 b1 b2 b3 : Byte) : Word :=
  b3.setWidth 32 <<< 24 ||| b2.setWidth 32 <<< 16 ||| b1.setWidth 32 <<< 8 ||| b0.setWidth 32

/-- W1 of a payload (R53). -/
def packLow (d : Payload) : Word := packBytes d[0] d[1] d[2] d[3]
/-- W2 of a payload (R53). -/
def packHigh (d : Payload) : Word := packBytes d[4] d[5] d[6] d[7]

/-- The operation whose words are W0 to W3 (the words beyond its length are not looked at); none where W0 selects no row
or an operand word has a reserved bit set. -/
def decodeFields (w0 w1 w2 w3 : Word) : Option Instr :=
  if rowInit.selects w0 then
    some (.init (w0.getLsbD 17) (w0.getLsbD 16) (w0.extractLsb' 0 16) (w1.extractLsb' 16 16) (w1.extractLsb' 0 16))
  else if rowSetnormal.selects w0 then some .setnormal
  else if rowDisable.selects w0 then some .disable
  else if rowRegrx.selects w0 then
    if w1 &&& regrxW1Reserved = 0 then some (.regrx (fieldIdx w0) (fieldRtr w0) (fieldId w0) (fieldId w1) w2 w3) else none
  else if rowRegtx.selects w0 then
    some (.regtx (w0.getLsbD 24) (fieldIdx w0) (fieldRtr w0) (fieldDlc w0) (fieldId w0))
  else if rowTxdata.selects w0 then some (.txdata (fieldIdx w0) (unpackPayload w1 w2))
  else if rowSend.selects w0 then some (.send (fieldIdx w0))
  else if rowDrain.selects w0 then some .drain
  else if rowAbortsync.selects w0 then some .abortsync
  else if rowCheckerr.selects w0 then some .checkerr
  else if rowRxframe.selects w0 then some (.rxframe (fieldRtr w0) (fieldDlc w0) (fieldId w0) (unpackPayload w1 w2))
  else if rowTxconf.selects w0 then some .txconf
  else if rowCbret.selects w0 then some .cbret
  else none

/-- The operation at the head of a list of words, and the words after it. -/
def decode (ws : List Word) : Except DecodeError (Instr × List Word) :=
  match ws with
  | [] => .error .empty
  | w0 :: operands =>
    if ws.length < opLength w0 then .error .truncated
    else if opcodeReserved w0 then .error .reservedOpcode
    else match decodeFields w0 (operands.getD 0 0) (operands.getD 1 0) (operands.getD 2 0) with
      | none => .error .reservedBits
      | some i => .ok (i, ws.drop (opLength w0))

/-- Decoding at a port: an operation of the other port is illegal there (R84). -/
def decodeAt (p : Port) (ws : List Word) : Except DecodeError (Instr × List Word) :=
  match decode ws with
  | .error e => .error e
  | .ok (i, rest) => if Request.wellFormed ⟨p, i⟩ then .ok (i, rest) else .error .wrongPort

/-- A bit as a word. -/
def bitWord (b : Bool) : Word := (BitVec.ofBool b).setWidth 32

/-- The words of an operation, from R75 to R81. -/
def encode : Instr → List Word
  | .init txs rxs rate txcap rxcap =>
    [0x10000000 ||| bitWord txs <<< 17 ||| bitWord rxs <<< 16 ||| rate.setWidth 32,
      txcap.setWidth 32 <<< 16 ||| rxcap.setWidth 32]
  | .setnormal => [0x20000000]
  | .disable => [0x30000000]
  | .regrx idx rtr id mask ctx cb =>
    [0x40000000 ||| idx.setWidth 32 <<< 16 ||| bitWord rtr <<< 15 ||| id.setWidth 32, mask.setWidth 32, ctx, cb]
  | .regtx sync idx rtr dlc id =>
    [0x50000000 ||| bitWord sync <<< 24 ||| idx.setWidth 32 <<< 16 ||| bitWord rtr <<< 15 ||| dlc.setWidth 32 <<< 11
      ||| id.setWidth 32]
  | .txdata idx data => [0x60000000 ||| idx.setWidth 32 <<< 16, packLow data, packHigh data]
  | .send idx => [0x70000000 ||| idx.setWidth 32 <<< 16]
  | .drain => [0x80000000]
  | .abortsync => [0x90000000]
  | .checkerr => [0xA0000000]
  | .rxframe rtr dlc id data =>
    [0xC0000000 ||| bitWord rtr <<< 15 ||| dlc.setWidth 32 <<< 11 ||| id.setWidth 32, packLow data, packHigh data]
  | .txconf => [0xD0000000]
  | .cbret => [0xE0000000]

/-- The words of a host program for one port, in order. -/
def encodeProgram (ops : List Instr) : List Word := ops.flatMap encode

/-- The four words of a bit string numbered from W0's bit 0 upward, every bit at or above `nbits` being 0. -/
def tableWords (nbits w : Nat) : List Word :=
  let v := w % 2 ^ nbits
  [BitVec.ofNat 32 v, BitVec.ofNat 32 (v / 2 ^ 32), BitVec.ofNat 32 (v / 2 ^ 64), BitVec.ofNat 32 (v / 2 ^ 96)]

/-- What the decoder reads from the words of `tableWords`. -/
def decodeTableWord (nbits w : Nat) : Option Instr :=
  match decode (tableWords nbits w) with
  | .ok (i, _) => some i
  | .error _ => none

end Sys2Proof
end

