-- ==== Sys2Proof/Machine/State.lean ====
section
/-! DEFINITION. The machine's state as plain data: the Module State (spec/10_state.md), the ports (spec/30_encoding.md R70,
spec/60_exceptions.md R182 to R186), the parameters (spec/00_scope.md R6) and the model's own bookkeeping; the state at
power-on; and the reasons a step can stop. -/

namespace Sys2Proof.Machine

/-- The answers the HTI collaborator will give to the requests to come, oldest first, one list per kind of request. They are
inputs the model does not compute and no law relates them (R10, R182). Where a list is empty the answer is a free value. -/
structure Answers where
  enable : List Bool
  txFree : List Bool
  write : List Bool
  errors : List Word
  deriving DecidableEq, Repr

/-- The whole machine. -/
structure State where
  /-- The Module State (R20). -/
  mod : ModuleState
  /-- The parameters of this CAN-FFA (R6); no step changes them. -/
  params : Params
  /-- The ghost bit `txRegistered` of spec/10_state.md section 8: the transmit indices registered since INIT. -/
  txRegistered : List SlotIndex
  /-- The words at the command port that are not consumed yet, oldest first (R70, R71). -/
  cmdIn : List Word
  /-- The words at the event port that are not consumed yet, oldest first (R70, R71). -/
  evIn : List Word
  /-- The answers of HTI to come (R182). -/
  answers : Answers
  /-- The model's counter of free values drawn. -/
  draws : Nat
  /-- What the result port and the collaborator ports have carried, oldest first (R70, R186). -/
  trace : List Output
  deriving DecidableEq, Repr

/-- No step of CAN-FFA ends in a fault: every failure the spec describes is a result code, after which the block goes on
(R172: "No condition is treated as fatal to the process"). The type has no value. -/
inductive Fault where
  deriving DecidableEq, Repr

/-- The named reasons a step can be refused. All are safe: the model stops where the hardware may go on. -/
inductive Refusal where
  /-- An operation that has no meaning yet. No arm of exec raises it. -/
  | notModelled (mnemonic : String)
  /-- Raised by RXFRAME while `rxBusy` is 1, under either policy (R125, R130, R179, U1). Safe. -/
  | dispatchInFlight
  /-- Raised by SEND under the refuse policy on an index with no REGTX since INIT (R104, U2). Safe. -/
  | slotNotRegistered
  /-- Raised by REGTX under the refuse policy on a slot whose `full` is 1 (R199, U5). Safe. -/
  | registrationOfQueuedSlot
  /-- Raised by REGTX under the refuse policy for a data length of 9 to 15 (R102, U7). Safe. -/
  | dataLengthAboveEight
  /-- Raised by REGRX while `hardwareFilteringEnabled` is 1, under either policy (R37, U10). Safe. -/
  | hardwareFiltering
  /-- Raised by SEND when it would increment `pendingTransmitCount` at 65535 (R33, U20: wrap must not be given a meaning). Safe. -/
  | countAboveRange
  /-- Raised by DRAIN and ABORTSYNC when they would decrement `pendingTransmitCount` at 0 (R33, U20). Safe. -/
  | countBelowZero
  deriving DecidableEq, Repr

/-- What the fetch finds at the ports. -/
inductive Fetched where
  /-- No port holds a whole operation. -/
  | idle
  /-- An operation, and the state after its words are consumed. -/
  | op (i : Instr) (s : State)
  /-- An illegal or wrong-port operation at a port, and the state after its words are consumed (R83, R84). -/
  | illegal (p : Port) (s : State)
  deriving DecidableEq, Repr

/-- The Module State at power-on: `initialised` is 0 (R45); every other value is unspecified there and is 0 here
(DESIGN CHOICE, unsafe, log entry 3). -/
def ModuleState.powerOn (p : Params) : ModuleState where
  rx := List.replicate p.rxMax.val RxSlot.zero
  tx := List.replicate p.txMax.val TxSlot.zero
  pendingTransmitCount := 0
  normalModeActive := false
  hardwareFilteringEnabled := false
  syncAbortPending := false
  firstFrameSent := false
  lastErrorBitmap := 0
  passiveActive := false
  rxCap := 0
  txCap := 0
  prescaler := 0
  rxBuf := Frame.zero
  rxBusy := false
  initialised := false

/-- Power-on: the block before the first INIT, which is its only reset operation (R190), with nothing at any port. -/
def State.reset : State where
  mod := ModuleState.powerOn Params.default
  params := Params.default
  txRegistered := []
  cmdIn := []
  evIn := []
  answers := ⟨[], [], [], []⟩
  draws := 0
  trace := []

end Sys2Proof.Machine
end

