-- ==== Sys2Proof/Machine/Operands.lean ====
section
/-! DEFINITION. What the operations compute from their operands: the encodings of spec/00_scope.md R12, the wire frame
(spec/41_transmit.md R109), the match predicate (spec/42_receive.md R125, R126), the bit-rates and the capacities of INIT
(spec/44_lifecycle.md R152, R153). -/

namespace Sys2Proof.Machine

/-- A bit as the lowest bit of an encoded value. -/
def bitEncoded (b : Bool) : Encoded := (BitVec.ofBool b).setWidth 16

/-- R12: `encId(id, rtr)` = (id << 2) | (rtr << 1), 16 bits. -/
def encId (id : CanId) (rtr : Bool) : Encoded := id.setWidth 16 <<< 2 ||| bitEncoded rtr <<< 1

/-- R12: `encMask(m, rtr)` under `MASK_RTR`. -/
def encMask (k : MaskRtr) (m : CanId) (rtr : Bool) : Encoded :=
  match k with
  | .fold => m.setWidth 16 <<< 2 ||| bitEncoded rtr <<< 1
  | .alwaysOne => m.setWidth 16 <<< 2 ||| bitEncoded true <<< 1

/-- R12: `decId(e)` = e[12:2]. -/
def decId (e : Encoded) : CanId := e.extractLsb' 2 11

/-- R12: `decRtr(e)` = e[1]. -/
def decRtr (e : Encoded) : Bool := e.getLsbD 1

/-- R109: the frame `HTI.write` receives for a row. -/
def wireFrame (r : TxSlot) : Frame := ⟨decId r.ident, decRtr r.ident, r.dlc, r.data⟩

/-- R125: "masked bits must agree, unmasked bits are don't-care". -/
def rowMatches (e : Encoded) (r : RxSlot) : Bool := (e ^^^ r.ident) &&& r.mask == 0

/-- R125, R126: the test of the scan at one row; under `SKIP` a row with a null callback takes no part. -/
def rowTakes (k : RxNullCb) (e : Encoded) (r : RxSlot) : Bool :=
  match k with
  | .matchAndDrop => rowMatches e r
  | .skip => r.cb != 0 && rowMatches e r

/-- R153: the recognised bit-rates, as numbers. -/
def rateOf (rate : BitVec 16) : Option Rate :=
  if rate = 1000 then some .r1000
  else if rate = 500 then some .r500
  else if rate = 250 then some .r250
  else if rate = 125 then some .r125
  else if rate = 100 then some .r100
  else if rate = 50 then some .r50
  else if rate = 20 then some .r20
  else if rate = 10 then some .r10
  else none

/-- R152: both storages present and both capacities within the physical depths. -/
def initArgumentsOk (p : Params) (txs rxs : Bool) (txcap rxcap : BitVec 16) : Bool :=
  rxs && txs && decide (rxcap.toNat ≤ p.rxMax.val) && decide (txcap.toNat ≤ p.txMax.val)

/-- R29, R102: a data length above 8. -/
def dlcAboveEight (dlc : BitVec 4) : Bool := decide (8 < dlc.toNat)

end Sys2Proof.Machine
end

