-- ==== Sys2Proof/Machine/Flags.lean ====
section
/-! DEFINITION. The flag computations: the bits of the error bitmap and what CHECKERR makes of them (spec/43_error_monitor.md
R141 to R145), the code of ABORTSYNC (spec/41_transmit.md R111), and the number of queued slots (spec/10_state.md R33). -/

namespace Sys2Proof.Machine

/-- R141: bit 0, bus-warning level reached. -/
def errWarn (e : Word) : Bool := e.getLsbD 0
/-- R141: bit 1, bus-passive level reached. -/
def errPass (e : Word) : Bool := e.getLsbD 1
/-- R141: bit 2, bus-off. -/
def errBoff (e : Word) : Bool := e.getLsbD 2
/-- R141: bits 3 and 4, receive overflow of either hardware receive channel. -/
def errRovf (e : Word) : Bool := e.getLsbD 3 || e.getLsbD 4

/-- `EM.report(c, SUBCODE[c], v)` (R149). -/
def report (c : Condition) (v : Word) : Output := .emReport c (Config.subcode c) v

/-- R144: the overflow condition that passive recovery resets. -/
def clearedOverflow : PassiveClears → Condition
  | .transmitOverflow => .transmitOverflow
  | .receiveOverflow => .receiveOverflow

/-- R143: the warning call while bus-off is clear. -/
def warningCall (e : Word) : Output := if errWarn e then report .busWarning e else .emReset .busWarning e

/-- R144: the passive calls while bus-off is clear; `sent` is `firstFrameSent`, `active` is `passiveActive`. -/
def passiveCalls (k : PassiveClears) (sent active : Bool) (e : Word) : List Output :=
  if errPass e then (if sent then [report .busPassive e] else [])
  else if active then [.emReset .busPassive e, .emReset (clearedOverflow k) e]
  else []

/-- R145: the receive-overflow call, independent of the other branches. -/
def overflowCalls (e : Word) : List Output := if errRovf e then [report .receiveOverflow e] else []

/-- R142: the EM calls of CHECKERR for a bitmap `e` that differs from `lastErrorBitmap`, in order. -/
def errorCalls (k : PassiveClears) (sent active : Bool) (e : Word) : List Output :=
  (if errBoff e then [report .busOff e]
    else [.emReset .busOff e, warningCall e] ++ passiveCalls k sent active e) ++ overflowCalls e

/-- R142: `passiveActive` after such a CHECKERR. -/
def passiveAfter (sent active : Bool) (e : Word) : Bool :=
  if errBoff e then active
  else if errPass e then sent || active
  else false

/-- R111: bit 0 = the in-flight marker was cleared, bit 1 = at least one queued slot was cleared. -/
def abortCode (marker queued : Bool) : Word := (if marker then 1 else 0) ||| (if queued then 2 else 0)

/-- R110: a queued slot whose `syncFlag` is set. -/
def queuedSync (r : TxSlot) : Bool := r.full && r.syncFlag

/-- R110: what ABORTSYNC makes of one row. -/
def abortRow (r : TxSlot) : TxSlot := if queuedSync r then { r with full := false } else r

/-- R33: the transmit rows in use. -/
def rowsInUse (m : ModuleState) : List TxSlot := m.tx.take m.txCap.toNat

/-- R33: the number of transmit slots with `full` = 1. -/
def numFull (m : ModuleState) : Nat := (rowsInUse m).countP (·.full)

/-- R110: how many slots ABORTSYNC clears. -/
def numQueuedSync (m : ModuleState) : Nat := (rowsInUse m).countP queuedSync

end Sys2Proof.Machine
end

