-- ==== Sys2Proof/Machine/Ops.lean ====
section
/-! DEFINITION. The named operations over the state: rows and registers of the Module (spec/20_memory.md R52), outputs and
result codes (spec/60_exceptions.md R170, R186), the collaborator's answers (R182), the checks common to commands
(spec/41_transmit.md R100), and the scans. -/

namespace Sys2Proof.Machine

/-! ### Rows and registers of the Module -/

/-- R52: the receive row `i`; beyond the physical table there is no row and the read gives a cleared row (log entry 16). -/
def ModuleState.rxRow (m : ModuleState) (i : Nat) : RxSlot := m.rx.getD i RxSlot.zero

/-- R52: the transmit row `i`; beyond the physical table there is no row and the read gives a cleared row (log entry 16). -/
def ModuleState.txRow (m : ModuleState) (i : Nat) : TxSlot := m.tx.getD i TxSlot.zero

/-- R52: `rx[i] <- r`. -/
def ModuleState.setRxRow (m : ModuleState) (i : Nat) (r : RxSlot) : ModuleState := { m with rx := m.rx.set i r }

/-- R52: `tx[i] <- r`. -/
def ModuleState.setTxRow (m : ModuleState) (i : Nat) (r : TxSlot) : ModuleState := { m with tx := m.tx.set i r }

/-- The transmit table, written whole. -/
def ModuleState.setTx (m : ModuleState) (rows : List TxSlot) : ModuleState := { m with tx := rows }

/-- R33. -/
def ModuleState.setCount (m : ModuleState) (n : BitVec 16) : ModuleState := { m with pendingTransmitCount := n }

/-- R36. -/
def ModuleState.setNormal (m : ModuleState) (b : Bool) : ModuleState := { m with normalModeActive := b }

/-- R34. -/
def ModuleState.setSyncAbort (m : ModuleState) (b : Bool) : ModuleState := { m with syncAbortPending := b }

/-- R35. -/
def ModuleState.setFirstSent (m : ModuleState) (b : Bool) : ModuleState := { m with firstFrameSent := b }

/-- R38. -/
def ModuleState.setLastErrors (m : ModuleState) (e : Word) : ModuleState := { m with lastErrorBitmap := e }

/-- R39. -/
def ModuleState.setPassive (m : ModuleState) (b : Bool) : ModuleState := { m with passiveActive := b }

/-- R43. -/
def ModuleState.setRxBuf (m : ModuleState) (f : Frame) : ModuleState := { m with rxBuf := f }

/-- R43. -/
def ModuleState.setRxBusy (m : ModuleState) (b : Bool) : ModuleState := { m with rxBusy := b }

/-! ### Outputs and results -/

/-- The state with another Module State. -/
def State.withMod (s : State) (m : ModuleState) : State := { s with mod := m }

/-- One output at its port (R186). -/
def State.emit (s : State) (o : Output) : State := { s with trace := s.trace ++ [o] }

/-- Several outputs, in order (R186). -/
def State.emitAll (s : State) (os : List Output) : State := { s with trace := s.trace ++ os }

/-- The ghost set of registered transmit indices (spec/10_state.md section 8). -/
def State.withRegistered (s : State) (l : List SlotIndex) : State := { s with txRegistered := l }

/-- The number of a result code on the result port (R170); 5, 6 and 7 are never produced. -/
def Result.code : Result → BitVec 3
  | .ok => 0
  | .illegalArgument => 1
  | .illegalBaudRate => 2
  | .hardwareFailure => 3
  | .transmitOverflow => 4

/-- The number of a condition at the EM port (R184). -/
def Condition.number : Condition → Nat
  | .busOff => 0
  | .busWarning => 1
  | .busPassive => 2
  | .receiveOverflow => 3
  | .transmitOverflow => 4
  | .syncWindowMissed => 5

/-- What the output carries on the result port: the 3-bit code, for a result (R70, R170). -/
def Output.resultCode : Output → Option (BitVec 3)
  | .result c => some c.code
  | _ => none

/-- What the result port has carried, oldest first (R170). -/
def State.resultPort (s : State) : List (BitVec 3) := s.trace.filterMap Output.resultCode

/-- One free value is drawn. -/
def State.draw (s : State) : State := { s with draws := s.draws + 1 }

/-- The answers to come, replaced. -/
def State.withAnswers (s : State) (a : Answers) : State := { s with answers := a }

/-- `return c` of a command: the result code is placed on the result port (R10, R170). -/
def ret (c : Result) (s : State) : Host.Outcome State Fault Refusal := .next (s.emit (.result c))

/-! ### The collaborator's answers (R10, R182, R183)

Each request is emitted, and the answer bound to it is the oldest one the environment has supplied for that kind of request;
where none is supplied it is a free value. -/

/-- The answer the next `HTI.enable` gets. -/
def State.enableAnswer (s : State) : Bool := s.answers.enable.headD (Config.freeEnable s.draws)

/-- `HTI.enable` requested and answered. -/
def State.askEnable (s : State) : State :=
  match s.answers.enable with
  | [] => (s.emit .htiEnable).draw
  | _ :: q => (s.emit .htiEnable).withAnswers { s.answers with enable := q }

/-- The answer the next `HTI.txFree` gets. -/
def State.txFreeAnswer (s : State) : Bool := s.answers.txFree.headD (Config.freeTxFree s.draws)

/-- `HTI.txFree` requested and answered. -/
def State.askTxFree (s : State) : State :=
  match s.answers.txFree with
  | [] => (s.emit .htiTxFree).draw
  | _ :: q => (s.emit .htiTxFree).withAnswers { s.answers with txFree := q }

/-- The answer the next `HTI.write` gets. -/
def State.writeAnswer (s : State) : Bool := s.answers.write.headD (Config.freeWrite s.draws)

/-- `HTI.write(f)` requested and answered. -/
def State.askWrite (s : State) (f : Frame) : State :=
  match s.answers.write with
  | [] => (s.emit (.htiWrite f)).draw
  | _ :: q => (s.emit (.htiWrite f)).withAnswers { s.answers with write := q }

/-- The bitmap the next `HTI.errors` gives. -/
def State.errorsAnswer (s : State) : Word := s.answers.errors.headD (Config.freeErrors s.draws)

/-- `HTI.errors` requested and answered. -/
def State.askErrors (s : State) : State :=
  match s.answers.errors with
  | [] => (s.emit .htiErrors).draw
  | _ :: q => (s.emit .htiErrors).withAnswers { s.answers with errors := q }

/-! ### The checks common to operations -/

/-- R173: a command while `initialised` is 0 returns `IllegalArgument` and changes nothing. -/
def command (s : State) (body : Host.Outcome State Fault Refusal) : Host.Outcome State Fault Refusal :=
  if s.mod.initialised then body else ret .illegalArgument s

/-- R173: an event while `initialised` is 0 is ignored. -/
def event (s : State) (body : Host.Outcome State Fault Refusal) : Host.Outcome State Fault Refusal :=
  if s.mod.initialised then body else .next s

/-- R54, R100: the checks common to commands with a transmit index. -/
def txCommand (idx : SlotIndex) (s : State) (body : Host.Outcome State Fault Refusal) :
    Host.Outcome State Fault Refusal :=
  command s (if idx.toNat < s.mod.txCap.toNat then body else ret .illegalArgument s)

/-- R11: a situation the spec says a model must refuse, and gives no meaning. -/
def refuseIf (situation : Bool) (why : Refusal) (body : Host.Outcome State Fault Refusal) :
    Host.Outcome State Fault Refusal :=
  if situation = true then .refused why else body

/-- R11: a situation the spec says a model must refuse, where it gives the literal hardware behaviour `body` beside the word:
that behaviour under the literal policy, the refusal under the refuse policy (log entry 2). -/
def refuseWhen (s : State) (situation : Bool) (why : Refusal) (body : Host.Outcome State Fault Refusal) :
    Host.Outcome State Fault Refusal :=
  refuseIf (decide (s.params.usage = .refuse) && situation) why body

/-- R83, R84: an illegal operation returns `IllegalArgument` on the command port and is ignored on the event port. -/
def illegalOperation (p : Port) (s : State) : Host.Outcome State Fault Refusal :=
  match p with
  | .command => ret .illegalArgument s
  | .event => .next s

/-! ### The scans (R44: from index 0 upward) -/

/-- R108: the lowest transmit index in use whose slot is full. -/
def firstFull (m : ModuleState) : Option Nat := (rowsInUse m).findIdx? (·.full)

/-- R125, R134: the lowest receive index in use whose row takes a frame with encoded identifier `e`. -/
def firstMatch (k : RxNullCb) (m : ModuleState) (e : Encoded) : Option Nat :=
  (m.rx.take m.rxCap.toNat).findIdx? (rowTakes k e)

/-- R110: the transmit table after ABORTSYNC: every row in use, no early exit. -/
def abortRows (m : ModuleState) : List TxSlot :=
  (rowsInUse m).map abortRow ++ m.tx.drop m.txCap.toNat

/-! ### Parts of operations -/

/-- R151, R191: the Module State after a successful INIT. -/
def ModuleState.afterInit (m : ModuleState) (p : Params) (r : Rate) (txcap rxcap : BitVec 16) : ModuleState where
  rx := List.replicate p.rxMax.val RxSlot.zero
  tx := List.replicate p.txMax.val TxSlot.zero
  pendingTransmitCount := 0
  normalModeActive := false
  hardwareFilteringEnabled := false
  syncAbortPending := false
  firstFrameSent := false
  lastErrorBitmap := 0
  passiveActive := false
  rxCap := rxcap.setWidth 9
  txCap := txcap.setWidth 9
  prescaler := Config.prescaler r
  rxBuf := m.rxBuf
  rxBusy := false
  initialised := true

/-- R154 (a): a failed INIT leaves `initialised` = 0 and every other part of the Module State unspecified: a free value
(log entry 4). The result is `c`. -/
def failedInit (c : Result) (s : State) : Host.Outcome State Fault Refusal :=
  ret c ((s.withMod { Config.unspecifiedModule s.draws with initialised := false }).withRegistered []).draw

/-- R151, R157: the sequence `HTI.disable`, `HTI.enable` whose answer is ignored. -/
def State.cycleChannel (s : State) : State := (s.emit .htiDisable).askEnable

/-- R34: `syncAbortPending` after a successful `HTI.write` of row `r`. -/
def State.noteWritten (s : State) (r : TxSlot) : State := s.withMod (s.mod.setSyncAbort r.syncFlag)

/-- R31, R33: a slot is queued: `full <- 1` and the count goes up by one; at 65535 the spec gives no meaning (U20). -/
def enqueue (i : Nat) (s : State) : Host.Outcome State Fault Refusal :=
  if s.mod.pendingTransmitCount = 0xFFFF then .refused .countAboveRange
  else ret .ok (s.withMod
    ((s.mod.setTxRow i { s.mod.txRow i with full := true }).setCount (s.mod.pendingTransmitCount + 1)))

/-- R108: a queued slot has left: `full <- 0`, the count goes down by one, and R34; at 0 the spec gives no meaning (U20). -/
def dequeueWritten (i : Nat) (s : State) : Host.Outcome State Fault Refusal :=
  if s.mod.pendingTransmitCount = 0 then .refused .countBelowZero
  else ret .ok ((s.withMod
    ((s.mod.setTxRow i { s.mod.txRow i with full := false }).setCount (s.mod.pendingTransmitCount - 1))).noteWritten
      (s.mod.txRow i))

/-- R125, R178: the dispatch of the frame in `rxBuf` to the row that took it: the callback is invoked when it is non-null. -/
def State.dispatch (s : State) (r : RxSlot) : State :=
  if r.cb = 0 then s else (s.withMod (s.mod.setRxBusy true)).emit (.cbInvoke r.cb r.ctx s.mod.rxBuf)

end Sys2Proof.Machine
end

