-- ==== Sys2Proof/Machine/ErrorMonitor.lean ====
section
/-! DEFINITION. The Error Monitor: CHECKERR (spec/43_error_monitor.md R140 to R149). -/

namespace Sys2Proof.Machine

/-- R142: what CHECKERR does with a sampled bitmap `e`; an unchanged bitmap changes and emits nothing (R146). -/
def noteErrors (e : Word) (s : State) : State :=
  if e = s.mod.lastErrorBitmap then s
  else (s.withMod ((s.mod.setLastErrors e).setPassive
    (passiveAfter s.mod.firstFrameSent s.mod.passiveActive e))).emitAll
      (errorCalls s.params.passiveClears s.mod.firstFrameSent s.mod.passiveActive e)

/-- CHECKERR (R142 to R149). -/
def execCheckerr (s : State) : Host.Outcome State Fault Refusal :=
  command s (ret .ok (noteErrors s.errorsAnswer s.askErrors))

end Sys2Proof.Machine
end

