-- ==== Sys2Proof/Machine/Lifecycle.lean ====
section
/-! DEFINITION. The lifecycle operations INIT, SETNORMAL, DISABLE (spec/44_lifecycle.md R150 to R158). -/

namespace Sys2Proof.Machine

/-- INIT (R151 to R154): arguments first, then the rate, then everything is reset and the channel is cycled. -/
def execInit (txs rxs : Bool) (rate txcap rxcap : BitVec 16) (s : State) : Host.Outcome State Fault Refusal :=
  if initArgumentsOk s.params txs rxs txcap rxcap then
    match rateOf rate with
    | none => failedInit .illegalBaudRate s
    | some r => ret .ok ((s.withMod (s.mod.afterInit s.params r txcap rxcap)).withRegistered []).cycleChannel
  else failedInit .illegalArgument s

/-- SETNORMAL (R155, R156). -/
def execSetnormal (s : State) : Host.Outcome State Fault Refusal :=
  command s (ret (if s.enableAnswer then .ok else .hardwareFailure)
    (s.askEnable.withMod (s.mod.setNormal s.enableAnswer)))

/-- DISABLE (R157). -/
def execDisable (s : State) : Host.Outcome State Fault Refusal :=
  command s (ret .ok (s.cycleChannel.withMod (s.mod.setNormal false)))

end Sys2Proof.Machine
end

