-- ==== Sys2Proof/Machine/Receive.lean ====
section
/-! DEFINITION. The Receive Demultiplexer: REGRX, RXFRAME, CBRET (spec/42_receive.md R120 to R134). -/

namespace Sys2Proof.Machine

/-- REGRX (R121 to R123). While `hardwareFilteringEnabled` is 1 the spec asks for a refusal and gives no literal behaviour
(R37, U10), so the filter is set on every other path. -/
def execRegrx (idx : SlotIndex) (rtr : Bool) (id mask : CanId) (ctx cb : Word) (s : State) :
    Host.Outcome State Fault Refusal :=
  command s
    (if idx.toNat < s.mod.rxCap.toNat ∧ ctx ≠ 0 ∧ cb ≠ 0 then
      refuseIf s.mod.hardwareFilteringEnabled .hardwareFiltering
        (ret .ok ((s.withMod (s.mod.setRxRow idx.toNat
          ⟨encId id rtr, encMask s.params.maskRtr mask rtr, ctx, cb⟩)).emit (.htiSetFilter .standard 0 0)))
    else ret .illegalArgument s)

/-- RXFRAME (R124 to R130). An RXFRAME while `rxBusy` is 1 is undefined in the source and refused (R130, R179). -/
def execRxframe (rtr : Bool) (dlc : BitVec 4) (id : CanId) (data : Payload) (s : State) :
    Host.Outcome State Fault Refusal :=
  event s
    (refuseIf s.mod.rxBusy .dispatchInFlight
      (let s' := s.withMod (s.mod.setRxBuf ⟨id, rtr, dlc, data⟩)
      .next (match firstMatch s.params.rxNullCb s.mod (encId id rtr) with
        | none => s'
        | some i => s'.dispatch (s.mod.rxRow i))))

/-- CBRET (R131). -/
def execCbret (s : State) : Host.Outcome State Fault Refusal :=
  event s (.next (s.withMod (s.mod.setRxBusy false)))

end Sys2Proof.Machine
end

