-- ==== Sys2Proof/Machine/Transmit.lean ====
section
/-! DEFINITION. The Transmit Dispatcher: REGTX, TXDATA, SEND, DRAIN, ABORTSYNC, TXCONF (spec/41_transmit.md R100 to R115). -/

namespace Sys2Proof.Machine

/-- REGTX (R101). On a queued slot (R199) and for a data length above 8 (R102) the spec asks for a refusal; the literal
behaviour is the same assignment, the count unchanged (log entry 2). The payload keeps its bytes (R30). -/
def execRegtx (sync : Bool) (idx : SlotIndex) (rtr : Bool) (dlc : BitVec 4) (id : CanId) (s : State) :
    Host.Outcome State Fault Refusal :=
  txCommand idx s
    (refuseWhen s (s.mod.txRow idx.toNat).full .registrationOfQueuedSlot
      (refuseWhen s (dlcAboveEight dlc) .dataLengthAboveEight
        (ret .ok ((s.withMod (s.mod.setTxRow idx.toNat
          ⟨encId id rtr, dlc, (s.mod.txRow idx.toNat).data, false, sync⟩)).withRegistered
            (s.txRegistered.insert idx)))))

/-- TXDATA (R103): all eight bytes, whatever the length and whether or not the slot is queued. -/
def execTxdata (idx : SlotIndex) (data : Payload) (s : State) : Host.Outcome State Fault Refusal :=
  txCommand idx s
    (ret .ok (s.withMod (s.mod.setTxRow idx.toNat { s.mod.txRow idx.toNat with data := data })))

/-- R105: SEND on a slot that is already full: the report once the first frame has been confirmed, and nothing else. -/
def sendOverflow (r : TxSlot) (s : State) : Host.Outcome State Fault Refusal :=
  ret .transmitOverflow
    (if s.mod.firstFrameSent then s.emit (report .transmitOverflow (r.ident.setWidth 32)) else s)

/-- R106: the direct write; a refused write loses the frame, the slot is not queued. -/
def sendDirect (r : TxSlot) (s : State) : Host.Outcome State Fault Refusal :=
  if s.writeAnswer then ret .ok ((s.askWrite (wireFrame r)).noteWritten r)
  else ret .hardwareFailure (s.askWrite (wireFrame r))

/-- SEND (R104 to R106). On an index never registered since INIT the spec asks for a refusal; the literal behaviour sends
or queues the row as it stands (R104, log entry 2). -/
def execSend (idx : SlotIndex) (s : State) : Host.Outcome State Fault Refusal :=
  txCommand idx s
    (refuseWhen s (!s.txRegistered.contains idx) .slotNotRegistered
      (if (s.mod.txRow idx.toNat).full then sendOverflow (s.mod.txRow idx.toNat) s
      else if s.txFreeAnswer ∧ s.mod.pendingTransmitCount = 0 then sendDirect (s.mod.txRow idx.toNat) s.askTxFree
      else enqueue idx.toNat s.askTxFree))

/-- R108: the write of the first full slot; a refused write changes nothing. -/
def drainSlot (i : Nat) (s : State) : Host.Outcome State Fault Refusal :=
  if s.writeAnswer then dequeueWritten i (s.askWrite (wireFrame (s.mod.txRow i)))
  else ret .ok (s.askWrite (wireFrame (s.mod.txRow i)))

/-- DRAIN (R107, R108). -/
def execDrain (s : State) : Host.Outcome State Fault Refusal :=
  command s
    (if s.mod.firstFrameSent then
      match firstFull s.mod with
      | none => ret .ok s
      | some i => drainSlot i s
    else ret .ok s)

/-- ABORTSYNC (R110, R111). The count goes down by one for each slot cleared; below 0 the spec gives no meaning (U20). -/
def execAbortsync (s : State) : Host.Outcome State Fault Refusal :=
  command s
    (if s.mod.pendingTransmitCount.toNat < numQueuedSync s.mod then .refused .countBelowZero
    else
      let code := abortCode s.mod.syncAbortPending (0 < numQueuedSync s.mod)
      let s' := s.withMod (((s.mod.setSyncAbort false).setTx (abortRows s.mod)).setCount
        (s.mod.pendingTransmitCount - BitVec.ofNat 16 (numQueuedSync s.mod)))
      ret .ok (if code = 0 then s' else s'.emit (report .syncWindowMissed code)))

/-- TXCONF (R112). -/
def execTxconf (s : State) : Host.Outcome State Fault Refusal :=
  event s (.next (s.withMod ((s.mod.setFirstSent true).setSyncAbort false)))

end Sys2Proof.Machine
end

