-- ==== Sys2Proof/Machine/Dispatch.lean ====
section
/-! DEFINITION. exec: one arm per operation (spec/30_encoding.md R72), each a call of its meaning. -/

namespace Sys2Proof.Machine

def exec (i : Instr) (s : State) : Host.Outcome State Fault Refusal :=
  match i with
  | .init txs rxs rate txcap rxcap => Sys2Proof.Machine.execInit txs rxs rate txcap rxcap s
  | .setnormal => Sys2Proof.Machine.execSetnormal s
  | .disable => Sys2Proof.Machine.execDisable s
  | .regrx idx rtr id mask ctx cb => Sys2Proof.Machine.execRegrx idx rtr id mask ctx cb s
  | .regtx sync idx rtr dlc id => Sys2Proof.Machine.execRegtx sync idx rtr dlc id s
  | .txdata idx data => Sys2Proof.Machine.execTxdata idx data s
  | .send idx => Sys2Proof.Machine.execSend idx s
  | .drain => Sys2Proof.Machine.execDrain s
  | .abortsync => Sys2Proof.Machine.execAbortsync s
  | .checkerr => Sys2Proof.Machine.execCheckerr s
  | .rxframe rtr dlc id data => Sys2Proof.Machine.execRxframe rtr dlc id data s
  | .txconf => Sys2Proof.Machine.execTxconf s
  | .cbret => Sys2Proof.Machine.execCbret s

end Sys2Proof.Machine
end

