-- ==== Sys2Proof/Machine/Fetch.lean ====
section
/-! DEFINITION. Taking the next operation from the two ports (spec/30_encoding.md R70, R71, R83 to R85, spec/20_memory.md
R59, spec/60_exceptions.md R177), and what the outside does at them: present words, supply answers. -/

namespace Sys2Proof.Machine

/-- The words waiting at a port. -/
def State.queue (s : State) : Port → List Word
  | .command => s.cmdIn
  | .event => s.evIn

/-- The words waiting at a port, replaced. -/
def State.setQueue (s : State) (p : Port) (ws : List Word) : State :=
  match p with
  | .command => { s with cmdIn := ws }
  | .event => { s with evIn := ws }

/-- A port is ready when all words of the operation at its head are there (R71, R85; log entry 6). -/
def readyWords : List Word → Bool
  | [] => false
  | w0 :: operands => decide (opLength w0 ≤ operands.length + 1)

/-- The words after the operation at the head of a port, whether it is legal or not (R83, R85). -/
def wordsAfter : List Word → List Word
  | [] => []
  | w0 :: operands => (w0 :: operands).drop (opLength w0)

/-- The operation at the head of a ready port is consumed and decoded (R83, R84). -/
def fetchFrom (p : Port) (s : State) : Fetched :=
  match decodeAt p (s.queue p) with
  | .ok (i, rest) => .op i (s.setQueue p rest)
  | .error _ => .illegal p (s.setQueue p (wordsAfter (s.queue p)))

/-- The next operation: the ready port's; when both are ready either may be taken first, and a free value says which (R177). -/
def fetch (s : State) : Fetched :=
  match readyWords s.cmdIn, readyWords s.evIn with
  | false, false => .idle
  | true, false => fetchFrom .command s
  | false, true => fetchFrom .event s
  | true, true => if Config.eventFirst s.draws then fetchFrom .event s.draw else fetchFrom .command s.draw

/-- The host presents words at a port; they follow those already waiting (R59: in the order issued). -/
def State.present (s : State) (p : Port) (ws : List Word) : State := s.setQueue p (s.queue p ++ ws)

/-- The environment supplies answers of HTI; they follow those already supplied. -/
def State.supply (s : State) (a : Answers) : State :=
  s.withAnswers ⟨s.answers.enable ++ a.enable, s.answers.txFree ++ a.txFree, s.answers.write ++ a.write,
    s.answers.errors ++ a.errors⟩

/-- The port at which an operation with header `w0` is looked for: the event port for opcodes 0xC and above (R72). -/
def portOfHeader (w0 : Word) : Port := if 0xC ≤ (opcodeOf w0).toNat then .event else .command

/-- The operation whose bits are `w` stands at the head of its port, and no other port is ready (log entry 8). -/
def State.placeOperation (s : State) (nbits w : Nat) : State :=
  let w0 : Word := BitVec.ofNat 32 (w % 2 ^ nbits)
  let ws := (tableWords nbits w).take (opLength w0)
  match portOfHeader w0 with
  | .command => { s with cmdIn := ws ++ s.cmdIn, evIn := [] }
  | .event => { s with evIn := ws ++ s.evIn, cmdIn := [] }

end Sys2Proof.Machine
end

