-- ==== Sys2Proof/Machine/Step.lean ====
section
/-! DEFINITION. One step of the machine: one whole operation taken from the ports and run atomically (spec/20_memory.md R56). -/

namespace Sys2Proof.Machine

/-- With no whole operation at any port nothing happens. -/
def step (s : State) : Host.Outcome State Fault Refusal :=
  match fetch s with
  | .idle => .next s
  | .op i s' => exec i s'
  | .illegal p s' => illegalOperation p s'

/-- The operation whose bits are `w`, numbered from W0's bit 0 upward, is the one the next step fetches. -/
def State.withFetchWord (s : State) (nbits w : Nat) : State := s.placeOperation nbits w

end Sys2Proof.Machine
end

