-- ==== Sys2Proof/Safety.lean ====
section
/-! DEFINITION. What claims call a sound state and a safe step. The parts of `State.Inv` are the invariants the rules of the
spec give: the tables have the physical depth (R21, R27, R41), encoded values have their fixed bits (R22, R23), an
unregistered receive row is all zero (R25, R122), the count and the full slots (R33, R115), the passive bit (R39, R144). -/

namespace Sys2Proof.Machine

/-- R22, R23: bits 15:13 and bit 0 of an encoded value are 0. -/
def encodedOk (e : Encoded) : Prop := e &&& 0xE001 = 0

/-- R21, R22, R23, R25, R122: a receive row is as INIT left it, or it was written by REGRX. -/
def RxSlot.Sound (r : RxSlot) : Prop :=
  encodedOk r.ident ∧ encodedOk r.mask ∧ (r.cb = 0 ∨ r.ctx = 0 → r = RxSlot.zero)

/-- R22: a transmit row. -/
def TxSlot.Sound (r : TxSlot) : Prop := encodedOk r.ident

/-- R21, R27, R41: the tables have one entry per physical row and the capacities are within the depths. -/
def TablesFit (s : State) : Prop :=
  s.mod.rx.length = s.params.rxMax.val ∧ s.mod.tx.length = s.params.txMax.val ∧
    s.mod.rxCap.toNat ≤ s.params.rxMax.val ∧ s.mod.txCap.toNat ≤ s.params.txMax.val

/-- R21: rows at and beyond the capacity are never written, so they are as INIT left them. -/
def UnusedRowsClear (s : State) : Prop :=
  (∀ r ∈ s.mod.rx.drop s.mod.rxCap.toNat, r = RxSlot.zero) ∧
    (∀ r ∈ s.mod.tx.drop s.mod.txCap.toNat, r = TxSlot.zero)

/-- R33 as it holds of the literal hardware: REGTX on a queued slot (R199) can only leave the count too high. -/
def CountCovers (s : State) : Prop := numFull s.mod ≤ s.mod.pendingTransmitCount.toNat

/-- R33: "`pendingTransmitCount` equals the number of transmit slots with `full = true`". -/
def CountExact (s : State) : Prop := numFull s.mod = s.mod.pendingTransmitCount.toNat

/-- R29: every stored data length is 0 to 8. -/
def LengthsOk (s : State) : Prop := ∀ r ∈ s.mod.tx, r.dlc.toNat ≤ 8

/-- R104: only registered slots are queued. -/
def QueuedRegistered (s : State) : Prop :=
  ∀ i : SlotIndex, (s.mod.txRow i.toNat).full = true → i ∈ s.txRegistered

/-- What holds of every initialised state a run reaches; the last three under the refuse policy. -/
def State.Inv (s : State) : Prop :=
  s.mod.initialised = true →
    TablesFit s ∧ UnusedRowsClear s ∧
    (∀ r ∈ s.mod.rx, r.Sound) ∧ (∀ r ∈ s.mod.tx, r.Sound) ∧
    s.mod.hardwareFilteringEnabled = false ∧
    (s.mod.passiveActive = true → s.mod.firstFrameSent = true) ∧
    CountCovers s ∧
    (s.params.usage = .refuse → CountExact s ∧ LengthsOk s ∧ QueuedRegistered s)

/-- A step that does not stop. -/
def StepsOn (s : State) : Prop := ∃ t, step s = .next t

/-- The operation is INIT. -/
def IsInit (i : Instr) : Prop := ∃ txs rxs rate txcap rxcap, i = .init txs rxs rate txcap rxcap

/-- The parameters, the words waiting at the input ports and the ghost set are as before. -/
def SameSurroundings (s t : State) : Prop :=
  t.params = s.params ∧ t.cmdIn = s.cmdIn ∧ t.evIn = s.evIn ∧ t.txRegistered = s.txRegistered

/-- The usage policy lets the operation go on: it is the literal hardware, or the situation the spec refuses is absent. -/
def Proceeds (s : State) (situation : Prop) : Prop := s.params.usage = .literal ∨ ¬ situation

/-- R202: every row below the highest registered one is registered: no row with a callback stands above one without. -/
def NoGaps (m : ModuleState) : Prop :=
  ∀ i j : Nat, i < j → j < m.rxCap.toNat → (m.rxRow j).cb ≠ 0 → (m.rxRow i).cb ≠ 0

end Sys2Proof.Machine
end

