-- ==== Sys2Proof/Certificates/Slice0/Obligations.lean ====
section
/-! DEFINITION. The statements for the provers, from the numbered rules of spec/. Each docstring names the rule or section it
formalises; where a clause is the model's own choice it names the log entry. -/

namespace Sys2Proof.Claims

open Sys2Proof Sys2Proof.Machine

/-- R73 to R81: some reserved bit of the operation's words is 1, for an assigned opcode. -/
def reservedBitSet (w0 w1 : Word) : Prop :=
  if opcodeOf w0 = 0x1 then w0 &&& 0x0FFC0000 ≠ 0
  else if opcodeOf w0 = 0x4 then w0 &&& 0x0F007800 ≠ 0 ∨ w1 &&& 0xFFFFF800 ≠ 0
  else if opcodeOf w0 = 0x5 then w0 &&& 0x0E000000 ≠ 0
  else if opcodeOf w0 = 0x6 ∨ opcodeOf w0 = 0x7 then w0 &&& 0x0F00FFFF ≠ 0
  else if opcodeOf w0 = 0xC then w0 &&& 0x0FFF0000 ≠ 0
  else w0 &&& 0x0FFFFFFF ≠ 0

/-- R125: row `r` takes a frame whose encoded identifier is `e`, under `RX_NULL_CB`. -/
def takesFrame (k : RxNullCb) (e : Encoded) (r : RxSlot) : Prop :=
  (k = .skip → r.cb ≠ 0) ∧ (e ^^^ r.ident) &&& r.mask = 0

/-- R142, the inner branch: the passive calls while `BOFF` is clear. -/
def monitorPassiveCalls (k : PassiveClears) (sent active : Bool) (e : Word) : List Output :=
  if e.getLsbD 1 = true then
    if sent = true then [Output.emReport Condition.busPassive (Config.subcode Condition.busPassive) e] else []
  else if active = true then
    [Output.emReset Condition.busPassive e,
      Output.emReset (if k = PassiveClears.transmitOverflow then Condition.transmitOverflow else Condition.receiveOverflow) e]
  else []

/-- R142: the EM calls for a changed bitmap, branch by branch of the pseudocode. -/
def monitorCalls (k : PassiveClears) (sent active : Bool) (e : Word) : List Output :=
  (if e.getLsbD 2 = true then [Output.emReport Condition.busOff (Config.subcode Condition.busOff) e]
    else
      Output.emReset Condition.busOff e ::
      (if e.getLsbD 0 = true then Output.emReport Condition.busWarning (Config.subcode Condition.busWarning) e
        else Output.emReset Condition.busWarning e) ::
      monitorPassiveCalls k sent active e) ++
  (if e.getLsbD 3 = true ∨ e.getLsbD 4 = true then
    [Output.emReport Condition.receiveOverflow (Config.subcode Condition.receiveOverflow) e] else [])

/-- R142: `passiveActive` after a changed bitmap. -/
def monitorPassive (sent active : Bool) (e : Word) : Bool :=
  if e.getLsbD 2 = true then active
  else if e.getLsbD 1 = true then (if sent = true then true else active)
  else false

/-- The outputs an operation may add at most (R186), result code not counted. -/
def maxOutputs : Instr → Nat
  | .init _ _ _ _ _ => 2
  | .setnormal => 1
  | .disable => 2
  | .regrx _ _ _ _ _ _ => 1
  | .regtx _ _ _ _ _ => 0
  | .txdata _ _ => 0
  | .send _ => 2
  | .drain => 1
  | .abortsync => 1
  | .checkerr => 6
  | .rxframe _ _ _ _ => 1
  | .txconf => 0
  | .cbret => 0

/-- The output is a result code. -/
def isResult : Output → Bool
  | .result _ => true
  | _ => false

/-- R10, R182: the answers to come and the count of free values drawn are those of state `u`, which has made the requests. -/
def AnswersAsIn (u t : State) : Prop := t.answers = u.answers ∧ t.draws = u.draws

/-- R83, R84, R85: what taking the words at the head of the command port does in state `s`: a legal command runs, an illegal
operation is consumed and answered with `IllegalArgument`. -/
def commandTaken (s : State) : Host.Outcome State Fault Refusal :=
  match decodeAt .command s.cmdIn with
  | .ok (i, rest) => exec i { s with cmdIn := rest }
  | .error _ => .next { s with
      cmdIn := s.cmdIn.drop (opLength (s.cmdIn.headD 0))
      trace := s.trace ++ [.result .illegalArgument] }

/-- R83, R84, R85: what taking the words at the head of the event port does in state `s`: a legal event runs, an illegal
operation is consumed and ignored. -/
def eventTaken (s : State) : Host.Outcome State Fault Refusal :=
  match decodeAt .event s.evIn with
  | .ok (i, rest) => exec i { s with evIn := rest }
  | .error _ => .next { s with evIn := s.evIn.drop (opLength (s.evIn.headD 0)) }

/-- R109: the wire frame of a row, bit by bit of the stored identifier. -/
def frameOf (r : TxSlot) : Frame := ⟨r.ident.extractLsb' 2 11, r.ident.getLsbD 1, r.dlc, r.data⟩

end Sys2Proof.Claims

section

open Sys2Proof Sys2Proof.Machine Sys2Proof.Claims

/-! ### Encoding -/

/-- R75 to R82: every operation is read back from its words, whatever follows them. -/
def Obligations.DecodeReadsEncodedOperation : Prop :=
  ∀ (i : Instr) (rest : List Word), decode (encode i ++ rest) = .ok (i, rest)

/-- R73, R83: the words of a decoded operation are its encoding, so no two word sequences mean the same operation and no
reserved bit is ignored. -/
def Obligations.DecodedWordsAreTheEncoding : Prop :=
  ∀ (ws : List Word) (i : Instr) (rest : List Word), decode ws = .ok (i, rest) → ws = encode i ++ rest

/-- Section 5 of 30_encoding.md: at most one row of the table is selected. -/
def Obligations.HeaderSelectsAtMostOneRow : Prop :=
  ∀ r₁ ∈ encodingTable, ∀ r₂ ∈ encodingTable, ∀ w : Word,
    r₁.selects w = true → r₂.selects w = true → r₁ = r₂

/-- Worked words of 95_test_vectors.md section 2.2 and of the rules' own examples (a sanity check). -/
def Obligations.WorkedWordsDecode : Prop :=
  decode [0x100300FA, 0x00040004] = .ok (.init true true 250 4 4, []) ∧
  decode [0x40000181, 0x000007FF, 0x00001000, 0x00002000] = .ok (.regrx 0 false 0x181 0x7FF 0x1000 0x2000, []) ∧
  decode [0x51031181] = .ok (.regtx true 3 false 2 0x181, []) ∧
  decode [0x70030000] = .ok (.send 3, []) ∧
  decode [0xC0001181, 0x00002211, 0x00000000] = .ok (.rxframe false 2 0x181 #v[0x11, 0x22, 0, 0, 0, 0, 0, 0], []) ∧
  decode [0xA0000000] = .ok (.checkerr, [])

/-- R83: which encodings are illegal, and that they have no effect but the result code and the words consumed. -/
def Obligations.IllegalEncodingHasNoEffect : Prop :=
  (∀ (w0 : Word) (ops : List Word), opLength w0 ≤ ops.length + 1 →
    ((∃ e, decode (w0 :: ops) = .error e) ↔
      (opcodeOf w0 = 0x0 ∨ opcodeOf w0 = 0xB ∨ opcodeOf w0 = 0xF ∨ reservedBitSet w0 (ops.getD 0 0)))) ∧
  (∀ w0 : Word, (opcodeOf w0 = 0x0 ∨ opcodeOf w0 = 0xB ∨ opcodeOf w0 = 0xF) → opLength w0 = 1) ∧
  (∀ (s : State) (w0 : Word) (ops : List Word) (e : DecodeError),
    s.cmdIn = w0 :: ops → opLength w0 ≤ ops.length + 1 → decode s.cmdIn = .error e → readyWords s.evIn = false →
    step s = .next { s with cmdIn := s.cmdIn.drop (opLength w0), trace := s.trace ++ [.result .illegalArgument] }) ∧
  (∀ (s : State) (w0 : Word) (ops : List Word) (e : DecodeError),
    s.evIn = w0 :: ops → opLength w0 ≤ ops.length + 1 → decode s.evIn = .error e → readyWords s.cmdIn = false →
    step s = .next { s with evIn := s.evIn.drop (opLength w0) })

/-- R84: a command at the event port is ignored, an event at the command port returns `IllegalArgument`. The number of words
consumed is that of R85 (log entry 10). -/
def Obligations.WrongPortOperationIsIllegal : Prop :=
  (∀ (s : State) (i : Instr) (rest : List Word),
    i.port = .command → s.evIn = encode i ++ rest → readyWords s.cmdIn = false → step s = .next { s with evIn := rest }) ∧
  (∀ (s : State) (i : Instr) (rest : List Word),
    i.port = .event → s.cmdIn = encode i ++ rest → readyWords s.evIn = false →
    step s = .next { s with cmdIn := rest, trace := s.trace ++ [.result .illegalArgument] })

/-! ### The step -/

/-- R70, R71: a step runs the command at the head of the command port, its words consumed. -/
def Obligations.StepRunsDecodedCommand : Prop :=
  ∀ (s : State) (i : Instr) (rest : List Word),
    decodeAt .command s.cmdIn = .ok (i, rest) → readyWords s.evIn = false → step s = exec i { s with cmdIn := rest }

/-- R70, R71: a step runs the event at the head of the event port, its words consumed. -/
def Obligations.StepRunsDecodedEvent : Prop :=
  ∀ (s : State) (i : Instr) (rest : List Word),
    decodeAt .event s.evIn = .ok (i, rest) → readyWords s.cmdIn = false → step s = exec i { s with evIn := rest }

/-- R59, R83, R84, R177: when both ports hold all words of an operation, legal or not, one of the two is taken: the legal
operation runs, the illegal one has the effect R83 gives it (a wrong-port one consumes the words of R85, log entry 10). Which
is taken is a free value, for which one draw is counted (log entry 7). -/
def Obligations.StepTakesCommandOrEventWhenBothReady : Prop :=
  ∀ (s : State) (wc we : Word) (oc oe : List Word),
    s.cmdIn = wc :: oc → opLength wc ≤ oc.length + 1 → s.evIn = we :: oe → opLength we ≤ oe.length + 1 →
    step s = commandTaken { s with draws := s.draws + 1 } ∨ step s = eventTaken { s with draws := s.draws + 1 }

/-- R71 (the model's reading, log entry 6): while no port holds a whole operation nothing happens. -/
def Obligations.StepIdlesWithoutWholeOperation : Prop :=
  ∀ s : State, readyWords s.cmdIn = false → readyWords s.evIn = false → step s = .next s

/-- R10, R182 (log entry 5): an answer the environment has supplied is the answer used, and it is used up; where none is
supplied the answer is a free value and one draw is counted; the other kinds of answer stay. -/
def Obligations.SuppliedAnswersAreUsedInOrder : Prop :=
  (∀ (s : State) (a : Bool) (q : List Bool), s.answers.enable = a :: q →
    s.enableAnswer = a ∧ s.askEnable.answers = { s.answers with enable := q } ∧ s.askEnable.draws = s.draws) ∧
  (∀ s : State, s.answers.enable = [] →
    s.enableAnswer = Config.freeEnable s.draws ∧ s.askEnable.answers = s.answers ∧ s.askEnable.draws = s.draws + 1) ∧
  (∀ (s : State) (a : Bool) (q : List Bool), s.answers.txFree = a :: q →
    s.txFreeAnswer = a ∧ s.askTxFree.answers = { s.answers with txFree := q } ∧ s.askTxFree.draws = s.draws) ∧
  (∀ s : State, s.answers.txFree = [] →
    s.txFreeAnswer = Config.freeTxFree s.draws ∧ s.askTxFree.answers = s.answers ∧ s.askTxFree.draws = s.draws + 1) ∧
  (∀ (s : State) (f : Frame) (a : Bool) (q : List Bool), s.answers.write = a :: q →
    s.writeAnswer = a ∧ (s.askWrite f).answers = { s.answers with write := q } ∧ (s.askWrite f).draws = s.draws) ∧
  (∀ (s : State) (f : Frame), s.answers.write = [] →
    s.writeAnswer = Config.freeWrite s.draws ∧ (s.askWrite f).answers = s.answers ∧
      (s.askWrite f).draws = s.draws + 1) ∧
  (∀ (s : State) (a : Word) (q : List Word), s.answers.errors = a :: q →
    s.errorsAnswer = a ∧ s.askErrors.answers = { s.answers with errors := q } ∧ s.askErrors.draws = s.draws) ∧
  (∀ s : State, s.answers.errors = [] →
    s.errorsAnswer = Config.freeErrors s.draws ∧ s.askErrors.answers = s.answers ∧ s.askErrors.draws = s.draws + 1)

/-! ### Before initialisation, and the range check -/

/-- R173: the uninitialised block answers every command but INIT with `IllegalArgument` and ignores every event. -/
def Obligations.UninitialisedBlockDoesNothing : Prop :=
  ∀ (i : Instr) (s : State), s.mod.initialised = false →
    (i.port = .command → ¬ IsInit i → exec i s = .next { s with trace := s.trace ++ [.result .illegalArgument] }) ∧
    (i.port = .event → exec i s = .next s)

/-- R54: an index at or beyond the capacity fails with `IllegalArgument`, emits nothing and changes no state. -/
def Obligations.IndexBeyondCapacityFails : Prop :=
  (∀ (s : State) (idx : SlotIndex) (rtr : Bool) (id mask : CanId) (ctx cb : Word), s.mod.rxCap.toNat ≤ idx.toNat →
    exec (.regrx idx rtr id mask ctx cb) s = .next { s with trace := s.trace ++ [.result .illegalArgument] }) ∧
  (∀ (s : State) (idx : SlotIndex), s.mod.txCap.toNat ≤ idx.toNat →
    (∀ sync rtr dlc id, exec (.regtx sync idx rtr dlc id) s =
      .next { s with trace := s.trace ++ [.result .illegalArgument] }) ∧
    (∀ data, exec (.txdata idx data) s = .next { s with trace := s.trace ++ [.result .illegalArgument] }) ∧
    exec (.send idx) s = .next { s with trace := s.trace ++ [.result .illegalArgument] })

/-! ### Lifecycle -/

/-- R151, R191: a successful INIT, every piece of state. How
answers are held and used up is the model's choice (log entry 5). -/
def Obligations.InitResetsEverything : Prop :=
  ∀ (s : State) (rate : BitVec 16) (r : Rate) (txcap rxcap : BitVec 16),
    (rate, r) ∈ ([(1000, .r1000), (500, .r500), (250, .r250), (125, .r125), (100, .r100), (50, .r50), (20, .r20),
      (10, .r10)] : List (BitVec 16 × Rate)) →
    rxcap.toNat ≤ s.params.rxMax.val → txcap.toNat ≤ s.params.txMax.val →
    ∃ t, exec (.init true true rate txcap rxcap) s = .next t ∧
      t.mod.initialised = true ∧ t.mod.rxCap.toNat = rxcap.toNat ∧ t.mod.txCap.toNat = txcap.toNat ∧
      t.mod.prescaler = Config.prescaler r ∧
      t.mod.normalModeActive = false ∧ t.mod.hardwareFilteringEnabled = false ∧ t.mod.syncAbortPending = false ∧
      t.mod.firstFrameSent = false ∧ t.mod.lastErrorBitmap = 0 ∧ t.mod.passiveActive = false ∧
      t.mod.pendingTransmitCount = 0 ∧ t.mod.rxBusy = false ∧ t.mod.rxBuf = s.mod.rxBuf ∧
      t.mod.rx = List.replicate s.params.rxMax.val ⟨0, 0, 0, 0⟩ ∧
      t.mod.tx = List.replicate s.params.txMax.val ⟨0, 0, Vector.replicate 8 0, false, false⟩ ∧
      t.trace = s.trace ++ [.htiDisable, .htiEnable, .result .ok] ∧
      t.params = s.params ∧ t.cmdIn = s.cmdIn ∧ t.evIn = s.evIn ∧ t.txRegistered = [] ∧ AnswersAsIn s.askEnable t

/-- R152, R153, R154: a failed INIT asks nothing of the hardware, returns its code and leaves the block uninitialised; the
argument check comes before the rate check. The one draw counted (log entry 4) and the emptied ghost set (log entry 15) are
the model's choices. -/
def Obligations.FailedInitTouchesNoHardware : Prop :=
  (∀ (s : State) (txs rxs : Bool) (rate txcap rxcap : BitVec 16),
    (txs = false ∨ rxs = false ∨ s.params.rxMax.val < rxcap.toNat ∨ s.params.txMax.val < txcap.toNat) →
    ∃ t, exec (.init txs rxs rate txcap rxcap) s = .next t ∧ t.mod.initialised = false ∧
      t.trace = s.trace ++ [.result .illegalArgument] ∧ t.answers = s.answers ∧
      t.draws = s.draws + 1 ∧ t.params = s.params ∧ t.cmdIn = s.cmdIn ∧ t.evIn = s.evIn ∧ t.txRegistered = []) ∧
  (∀ (s : State) (rate txcap rxcap : BitVec 16),
    rxcap.toNat ≤ s.params.rxMax.val → txcap.toNat ≤ s.params.txMax.val →
    rate ∉ ([1000, 500, 250, 125, 100, 50, 20, 10] : List (BitVec 16)) →
    ∃ t, exec (.init true true rate txcap rxcap) s = .next t ∧ t.mod.initialised = false ∧
      t.trace = s.trace ++ [.result .illegalBaudRate] ∧ t.answers = s.answers ∧
      t.draws = s.draws + 1 ∧ t.params = s.params ∧ t.cmdIn = s.cmdIn ∧ t.evIn = s.evIn ∧ t.txRegistered = [])

/-- R155: SETNORMAL writes `normalModeActive` with the answer of `HTI.enable`, and nothing else; its word. How
answers are held and used up is the model's choice (log entry 5). -/
def Obligations.SetnormalFollowsEnableAnswer : Prop :=
  decodeAt .command [0x20000000] = .ok (.setnormal, []) ∧
  (∀ s : State, s.mod.initialised = true →
    ∃ t, exec .setnormal s = .next t ∧ t.mod = { s.mod with normalModeActive := s.enableAnswer } ∧
      t.trace = s.trace ++ [.htiEnable, .result (if s.enableAnswer = true then .ok else .hardwareFailure)] ∧
      SameSurroundings s t ∧ AnswersAsIn s.askEnable t) ∧
  (∀ s : State, s.mod.initialised = false →
    exec .setnormal s = .next { s with trace := s.trace ++ [.result .illegalArgument] })

/-- R157: DISABLE cycles the channel and clears `normalModeActive`; a second DISABLE leaves the same Module State and makes
the same requests; its word. How
answers are held and used up is the model's choice (log entry 5). -/
def Obligations.DisableCyclesChannel : Prop :=
  decodeAt .command [0x30000000] = .ok (.disable, []) ∧
  (∀ s : State, s.mod.initialised = true →
    ∃ t, exec .disable s = .next t ∧ t.mod = { s.mod with normalModeActive := false } ∧
      t.trace = s.trace ++ [.htiDisable, .htiEnable, .result .ok] ∧ SameSurroundings s t ∧ AnswersAsIn s.askEnable t ∧
      ∃ u, exec .disable t = .next u ∧ u.mod = t.mod ∧ u.trace = t.trace ++ [.htiDisable, .htiEnable, .result .ok] ∧
        SameSurroundings t u ∧ AnswersAsIn t.askEnable u) ∧
  (∀ s : State, s.mod.initialised = false →
    exec .disable s = .next { s with trace := s.trace ++ [.result .illegalArgument] })

/-! ### Receive Demultiplexer -/

/-- R12: the encoding functions and their inverses, as numbers, and that decoding inverts encoding. That bits 15:13 and bit 0
of an encoded value are 0 is said by the numbers: they are even and below 8192. -/
def Obligations.IdentifierEncodingRoundTrip : Prop :=
  (∀ (id : CanId) (rtr : Bool),
    (encId id rtr).toNat = 4 * id.toNat + 2 * rtr.toNat ∧
    (encMask .fold id rtr).toNat = 4 * id.toNat + 2 * rtr.toNat ∧
    (encMask .alwaysOne id rtr).toNat = 4 * id.toNat + 2 ∧
    decId (encId id rtr) = id ∧ decRtr (encId id rtr) = rtr) ∧
  (∀ e : Encoded, (decId e).toNat = e.toNat / 4 % 2048 ∧ (decRtr e).toNat = e.toNat / 2 % 2)

/-- R121: a successful REGRX writes the whole row, installs the pass-all filter and leaves everything else. -/
def Obligations.RegrxWritesRowAndInstallsFilter : Prop :=
  ∀ (s : State) (idx : SlotIndex) (rtr : Bool) (id mask : CanId) (ctx cb : Word),
    s.mod.initialised = true → idx.toNat < s.mod.rxCap.toNat → ctx ≠ 0 → cb ≠ 0 →
    s.mod.hardwareFilteringEnabled = false →
    ∃ t, exec (.regrx idx rtr id mask ctx cb) s = .next t ∧
      t = { s with
        mod := { s.mod with rx := s.mod.rx.set idx.toNat ⟨encId id rtr, encMask s.params.maskRtr mask rtr, ctx, cb⟩ }
        trace := s.trace ++ [.htiSetFilter .standard 0 0, .result .ok] } ∧
      (idx.toNat < s.mod.rx.length →
        t.mod.rxRow idx.toNat = ⟨encId id rtr, encMask s.params.maskRtr mask rtr, ctx, cb⟩) ∧
      ∀ j, j ≠ idx.toNat → t.mod.rxRow j = s.mod.rxRow j

/-- R122: an index out of range, a null context, a null callback or a null module fails, before anything is written: no row
is changed and nothing but the result code is emitted. -/
def Obligations.RegrxRejectsBadArguments : Prop :=
  ∀ (s : State) (idx : SlotIndex) (rtr : Bool) (id mask : CanId) (ctx cb : Word),
    (s.mod.rxCap.toNat ≤ idx.toNat ∨ ctx = 0 ∨ cb = 0 ∨ s.mod.initialised = false) →
    exec (.regrx idx rtr id mask ctx cb) s = .next { s with trace := s.trace ++ [.result .illegalArgument] }

/-- R37, U10: a REGRX with legal arguments while `hardwareFilteringEnabled` is 1 is refused. -/
def Obligations.RegrxWithHardwareFiltering : Prop :=
  ∀ (s : State) (idx : SlotIndex) (rtr : Bool) (id mask : CanId) (ctx cb : Word),
    s.mod.initialised = true → idx.toNat < s.mod.rxCap.toNat → ctx ≠ 0 → cb ≠ 0 →
    s.mod.hardwareFilteringEnabled = true → exec (.regrx idx rtr id mask ctx cb) s = .refused .hardwareFiltering

/-- R127: the match predicate bit by bit, for rows as REGRX writes them. -/
def Obligations.MatchIsAgreementOnMaskedBits : Prop :=
  ∀ (k : MaskRtr) (id rid m : CanId) (rtr rrtr : Bool),
    (encId id rtr ^^^ encId rid rrtr) &&& encMask k m rrtr = 0 ↔
      (∀ b < 11, m.getLsbD b = true → id.getLsbD b = rid.getLsbD b) ∧
      (k = .fold → rrtr = true → rtr = true) ∧
      (k = .alwaysOne → rtr = rrtr)

/-- R125, R134: the lowest row that takes the frame gets it: its callback is invoked once, with its context and the decoded
frame, and nothing but `rxBuf` and `rxBusy` changes. While a dispatch is in flight RXFRAME is refused
(RxframeDuringDispatchIsRefused). -/
def Obligations.RxframeInvokesLowestMatchingRow : Prop :=
  ∀ (s : State) (rtr : Bool) (dlc : BitVec 4) (id : CanId) (data : Payload) (i : Nat),
    s.mod.initialised = true → s.mod.rxBusy = false →
    i < s.mod.rxCap.toNat → i < s.mod.rx.length →
    takesFrame s.params.rxNullCb (encId id rtr) (s.mod.rxRow i) →
    (∀ j < i, ¬ takesFrame s.params.rxNullCb (encId id rtr) (s.mod.rxRow j)) →
    (s.mod.rxRow i).cb ≠ 0 →
    exec (.rxframe rtr dlc id data) s = .next { s with
      mod := { s.mod with rxBuf := ⟨id, rtr, dlc, data⟩, rxBusy := true }
      trace := s.trace ++ [.cbInvoke (s.mod.rxRow i).cb (s.mod.rxRow i).ctx ⟨id, rtr, dlc, data⟩] }

/-- R125, R126, R129: with no row that takes the frame, or when the lowest such row has a null callback, the frame is
dropped: only `rxBuf` changes and nothing is emitted. While a dispatch is in flight RXFRAME is refused
(RxframeDuringDispatchIsRefused). -/
def Obligations.RxframeDropsUnmatchedFrame : Prop :=
  ∀ (s : State) (rtr : Bool) (dlc : BitVec 4) (id : CanId) (data : Payload),
    s.mod.initialised = true → s.mod.rxBusy = false →
    ((∀ j, j < s.mod.rxCap.toNat → j < s.mod.rx.length →
        ¬ takesFrame s.params.rxNullCb (encId id rtr) (s.mod.rxRow j)) ∨
      (∃ i, i < s.mod.rxCap.toNat ∧ i < s.mod.rx.length ∧ (s.mod.rxRow i).cb = 0 ∧
        takesFrame s.params.rxNullCb (encId id rtr) (s.mod.rxRow i) ∧
        ∀ j < i, ¬ takesFrame s.params.rxNullCb (encId id rtr) (s.mod.rxRow j))) →
    exec (.rxframe rtr dlc id data) s = .next { s with mod := { s.mod with rxBuf := ⟨id, rtr, dlc, data⟩ } }

/-- R130, R179: an RXFRAME while `rxBusy` is 1 is refused: dispatch does not nest. -/
def Obligations.RxframeDuringDispatchIsRefused : Prop :=
  ∀ (s : State) (rtr : Bool) (dlc : BitVec 4) (id : CanId) (data : Payload),
    s.mod.initialised = true → s.mod.rxBusy = true → exec (.rxframe rtr dlc id data) s = .refused .dispatchInFlight

/-- R131: CBRET clears `rxBusy` and does nothing else; it is ignored while uninitialised; its word. -/
def Obligations.CbretClearsBusy : Prop :=
  decodeAt .event [0xE0000000] = .ok (.cbret, []) ∧
  (∀ s : State, s.mod.initialised = true → exec .cbret s = .next { s with mod := { s.mod with rxBusy := false } }) ∧
  (∀ s : State, s.mod.initialised = false → exec .cbret s = .next s)

/-- 95_test_vectors.md section 4, R126: with rows registered without gaps the two readings of a null-callback row give the
same state and the same outputs. -/
def Obligations.NullRowReadingsAgreeWithoutGaps : Prop :=
  ∀ (s t u : State) (rtr : Bool) (dlc : BitVec 4) (id : CanId) (data : Payload), NoGaps s.mod →
    exec (.rxframe rtr dlc id data) { s with params := { s.params with rxNullCb := .matchAndDrop } } = .next t →
    exec (.rxframe rtr dlc id data) { s with params := { s.params with rxNullCb := .skip } } = .next u →
    t.mod = u.mod ∧ t.trace = u.trace

/-! ### Transmit Dispatcher -/

/-- R101: REGTX writes four fields of the row; the payload and the count stay. On a queued slot (R199) and for a length above
8 (R102) this is the literal hardware (log entry 2). -/
def Obligations.RegtxWritesRegistration : Prop :=
  ∀ (s : State) (sync : Bool) (idx : SlotIndex) (rtr : Bool) (dlc : BitVec 4) (id : CanId),
    s.mod.initialised = true → idx.toNat < s.mod.txCap.toNat →
    Proceeds s ((s.mod.txRow idx.toNat).full = true ∨ 8 < dlc.toNat) →
    ∃ t, exec (.regtx sync idx rtr dlc id) s = .next t ∧
      t = { s with
        mod := { s.mod with
          tx := s.mod.tx.set idx.toNat ⟨encId id rtr, dlc, (s.mod.txRow idx.toNat).data, false, sync⟩ }
        txRegistered := s.txRegistered.insert idx
        trace := s.trace ++ [.result .ok] } ∧
      (idx.toNat < s.mod.tx.length →
        t.mod.txRow idx.toNat = ⟨encId id rtr, dlc, (s.mod.txRow idx.toNat).data, false, sync⟩) ∧
      ∀ j, j ≠ idx.toNat → t.mod.txRow j = s.mod.txRow j

/-- R102, R199: under the refuse policy REGTX is refused on a queued slot and for a data length above 8. -/
def Obligations.RegtxMisuseIsRefused : Prop :=
  ∀ (s : State) (sync : Bool) (idx : SlotIndex) (rtr : Bool) (dlc : BitVec 4) (id : CanId),
    s.mod.initialised = true → idx.toNat < s.mod.txCap.toNat → s.params.usage = .refuse →
    ((s.mod.txRow idx.toNat).full = true → exec (.regtx sync idx rtr dlc id) s = .refused .registrationOfQueuedSlot) ∧
    ((s.mod.txRow idx.toNat).full = false → 8 < dlc.toNat →
      exec (.regtx sync idx rtr dlc id) s = .refused .dataLengthAboveEight)

/-- R103: TXDATA writes the eight bytes, whatever the length and whether or not the slot is queued, and nothing else; where
the common checks fail it returns `IllegalArgument`; the rule's example words. -/
def Obligations.TxdataWritesPayload : Prop :=
  decodeAt .command [0x60030000, 0x00002211, 0x00000000] = .ok (.txdata 3 #v[0x11, 0x22, 0, 0, 0, 0, 0, 0], []) ∧
  (∀ (s : State) (idx : SlotIndex) (data : Payload),
    (s.mod.initialised = false ∨ s.mod.txCap.toNat ≤ idx.toNat) →
    exec (.txdata idx data) s = .next { s with trace := s.trace ++ [.result .illegalArgument] }) ∧
  ∀ (s : State) (idx : SlotIndex) (data : Payload),
    s.mod.initialised = true → idx.toNat < s.mod.txCap.toNat →
    ∃ t, exec (.txdata idx data) s = .next t ∧
      t = { s with
        mod := { s.mod with tx := s.mod.tx.set idx.toNat { s.mod.txRow idx.toNat with data := data } }
        trace := s.trace ++ [.result .ok] } ∧
      (idx.toNat < s.mod.tx.length → t.mod.txRow idx.toNat = { s.mod.txRow idx.toNat with data := data }) ∧
      ∀ j, j ≠ idx.toNat → t.mod.txRow j = s.mod.txRow j

/-- R105: SEND on a full slot: one report once the first frame has been confirmed, none before, and nothing else. For a slot
never registered since INIT (R104 says a model must refuse) this is the literal hardware, under the literal policy only, the
model's choice (log entry 2). -/
def Obligations.SendOnFullSlotOverflows : Prop :=
  ∀ (s : State) (idx : SlotIndex),
    s.mod.initialised = true → idx.toNat < s.mod.txCap.toNat → Proceeds s (idx ∉ s.txRegistered) →
    (s.mod.txRow idx.toNat).full = true →
    exec (.send idx) s = .next { s with trace := s.trace ++
      (if s.mod.firstFrameSent = true then
        [.emReport .transmitOverflow (Config.subcode .transmitOverflow) ((s.mod.txRow idx.toNat).ident.setWidth 32)]
      else []) ++ [.result .transmitOverflow] }

/-- R106: SEND with a free mailbox and nothing pending writes at once; a refused write loses the frame. For a slot never
registered since INIT (R104 says a model must refuse) this is the literal hardware, under the literal policy only, the model's
choice (log entry 2). How answers are held and used up is the model's choice (log entry 5). -/
def Obligations.SendWritesAtOnceWhenNothingPending : Prop :=
  ∀ (s : State) (idx : SlotIndex),
    s.mod.initialised = true → idx.toNat < s.mod.txCap.toNat → Proceeds s (idx ∉ s.txRegistered) →
    (s.mod.txRow idx.toNat).full = false → s.txFreeAnswer = true → s.mod.pendingTransmitCount = 0 →
    ∃ t, exec (.send idx) s = .next t ∧
      (s.askTxFree.writeAnswer = true →
        t.mod = { s.mod with syncAbortPending := (s.mod.txRow idx.toNat).syncFlag } ∧
        t.trace = s.trace ++ [.htiTxFree, .htiWrite (frameOf (s.mod.txRow idx.toNat)), .result .ok]) ∧
      (s.askTxFree.writeAnswer = false →
        t.mod = s.mod ∧
        t.trace = s.trace ++ [.htiTxFree, .htiWrite (frameOf (s.mod.txRow idx.toNat)), .result .hardwareFailure]) ∧
      SameSurroundings s t ∧ AnswersAsIn (s.askTxFree.askWrite (frameOf (s.mod.txRow idx.toNat))) t

/-- R106: otherwise SEND queues the slot and counts it; at 65535 the spec gives the increment no meaning (R33, log entry 14).
For a slot never registered since INIT (R104 says a model must refuse) this is the literal hardware, under the literal policy
only, the model's choice (log entry 2). How answers are held and used up is the model's choice (log entry 5). -/
def Obligations.SendQueuesOtherwise : Prop :=
  ∀ (s : State) (idx : SlotIndex),
    s.mod.initialised = true → idx.toNat < s.mod.txCap.toNat → Proceeds s (idx ∉ s.txRegistered) →
    (s.mod.txRow idx.toNat).full = false → (s.txFreeAnswer = false ∨ s.mod.pendingTransmitCount ≠ 0) →
    (s.mod.pendingTransmitCount ≠ 0xFFFF →
      ∃ t, exec (.send idx) s = .next t ∧
        t.mod = { s.mod with
          tx := s.mod.tx.set idx.toNat { s.mod.txRow idx.toNat with full := true }
          pendingTransmitCount := s.mod.pendingTransmitCount + 1 } ∧
        t.trace = s.trace ++ [.htiTxFree, .result .ok] ∧ SameSurroundings s t ∧ AnswersAsIn s.askTxFree t) ∧
    (s.mod.pendingTransmitCount = 0xFFFF → exec (.send idx) s = .refused .countAboveRange)

/-- R104: under the refuse policy SEND on an index never registered since INIT is refused. -/
def Obligations.SendOfUnregisteredSlotIsRefused : Prop :=
  ∀ (s : State) (idx : SlotIndex),
    s.mod.initialised = true → idx.toNat < s.mod.txCap.toNat → s.params.usage = .refuse → idx ∉ s.txRegistered →
    exec (.send idx) s = .refused .slotNotRegistered

/-- R107: while `firstFrameSent` is 0 DRAIN returns `OK`, emits nothing and changes nothing. -/
def Obligations.DrainWaitsForFirstConfirmation : Prop :=
  ∀ s : State, s.mod.initialised = true → s.mod.firstFrameSent = false →
    exec .drain s = .next { s with trace := s.trace ++ [.result .ok] }

/-- R108, R113: DRAIN writes the lowest full slot and no other; on success it leaves the queue and the count goes down by
one, on failure nothing changes; with no full slot nothing happens. How
answers are held and used up is the model's choice (log entry 5). -/
def Obligations.DrainSendsLowestFullSlot : Prop :=
  (∀ (s : State) (i : Nat),
    s.mod.initialised = true → s.mod.firstFrameSent = true →
    i < s.mod.txCap.toNat → i < s.mod.tx.length → (s.mod.txRow i).full = true → (∀ j < i, (s.mod.txRow j).full = false) →
    (s.writeAnswer = false →
      ∃ t, exec .drain s = .next t ∧ t.mod = s.mod ∧
        t.trace = s.trace ++ [.htiWrite (frameOf (s.mod.txRow i)), .result .ok] ∧ SameSurroundings s t ∧
        AnswersAsIn (s.askWrite (frameOf (s.mod.txRow i))) t) ∧
    (s.writeAnswer = true → s.mod.pendingTransmitCount ≠ 0 →
      ∃ t, exec .drain s = .next t ∧
        t.mod = { s.mod with
          tx := s.mod.tx.set i { s.mod.txRow i with full := false }
          pendingTransmitCount := s.mod.pendingTransmitCount - 1
          syncAbortPending := (s.mod.txRow i).syncFlag } ∧
        t.trace = s.trace ++ [.htiWrite (frameOf (s.mod.txRow i)), .result .ok] ∧ SameSurroundings s t ∧
        AnswersAsIn (s.askWrite (frameOf (s.mod.txRow i))) t) ∧
    (s.writeAnswer = true → s.mod.pendingTransmitCount = 0 → exec .drain s = .refused .countBelowZero)) ∧
  (∀ s : State,
    s.mod.initialised = true → s.mod.firstFrameSent = true →
    (∀ j, j < s.mod.txCap.toNat → j < s.mod.tx.length → (s.mod.txRow j).full = false) →
    exec .drain s = .next { s with trace := s.trace ++ [.result .ok] })

/-- R110, R111: ABORTSYNC removes every queued sync slot and the marker, and reports the code when it is not 0. -/
def Obligations.AbortsyncClearsQueuedSyncSlots : Prop :=
  ∀ s : State, s.mod.initialised = true →
    ∀ n : Nat, n = (s.mod.tx.take s.mod.txCap.toNat).countP (fun r => r.full && r.syncFlag) →
    n ≤ s.mod.pendingTransmitCount.toNat →
    ∃ t, exec .abortsync s = .next t ∧
      (∀ j, t.mod.txRow j =
        if j < s.mod.txCap.toNat ∧ (s.mod.txRow j).full = true ∧ (s.mod.txRow j).syncFlag = true then
          { s.mod.txRow j with full := false }
        else s.mod.txRow j) ∧
      t.mod.tx.length = s.mod.tx.length ∧
      t.mod.pendingTransmitCount.toNat = s.mod.pendingTransmitCount.toNat - n ∧
      t.mod = { s.mod with
        tx := t.mod.tx
        pendingTransmitCount := t.mod.pendingTransmitCount
        syncAbortPending := false } ∧
      (∀ code : Word,
        code = (if s.mod.syncAbortPending = true then (if 0 < n then 3 else 1) else (if 0 < n then 2 else 0)) →
        t.trace = s.trace ++
          (if code = 0 then [] else [.emReport .syncWindowMissed (Config.subcode .syncWindowMissed) code]) ++
          [.result .ok]) ∧
      SameSurroundings s t ∧ t.answers = s.answers ∧ t.draws = s.draws

/-- R112: TXCONF sets `firstFrameSent`, clears `syncAbortPending` and does nothing else; it is ignored while uninitialised; its
word. -/
def Obligations.TxconfConfirmsFirstFrame : Prop :=
  decodeAt .event [0xD0000000] = .ok (.txconf, []) ∧
  (∀ s : State, s.mod.initialised = true →
    exec .txconf s = .next { s with mod := { s.mod with firstFrameSent := true, syncAbortPending := false } }) ∧
  (∀ s : State, s.mod.initialised = false → exec .txconf s = .next s)

/-- 95_test_vectors.md section 4, R106: a SEND never both writes to the hardware and marks its slot full. -/
def Obligations.SendNeverWritesAndQueues : Prop :=
  ∀ (s t : State) (idx : SlotIndex), exec (.send idx) s = .next t →
    (s.mod.txRow idx.toNat).full = false → (t.mod.txRow idx.toNat).full = true →
    t.trace = s.trace ++ [.htiTxFree, .result .ok]

/-! ### Error Monitor -/

/-- R142: CHECKERR on a changed bitmap, on an unchanged one, and before INIT; its word. How
answers are held and used up is the model's choice (log entry 5). -/
def Obligations.CheckerrFollowsBitmapChanges : Prop :=
  decodeAt .command [0xA0000000] = .ok (.checkerr, []) ∧
  (∀ (s : State) (e : Word), s.mod.initialised = true → s.errorsAnswer = e → e ≠ s.mod.lastErrorBitmap →
    ∃ t, exec .checkerr s = .next t ∧
      t.mod = { s.mod with
        lastErrorBitmap := e
        passiveActive := monitorPassive s.mod.firstFrameSent s.mod.passiveActive e } ∧
      t.trace = s.trace ++ [.htiErrors] ++
        monitorCalls s.params.passiveClears s.mod.firstFrameSent s.mod.passiveActive e ++ [.result .ok] ∧
      SameSurroundings s t ∧ AnswersAsIn s.askErrors t) ∧
  (∀ s : State, s.mod.initialised = true → s.errorsAnswer = s.mod.lastErrorBitmap →
    ∃ t, exec .checkerr s = .next t ∧ t.mod = s.mod ∧ t.trace = s.trace ++ [.htiErrors, .result .ok] ∧
      SameSurroundings s t ∧ AnswersAsIn s.askErrors t) ∧
  (∀ s : State, s.mod.initialised = false →
    exec .checkerr s = .next { s with trace := s.trace ++ [.result .illegalArgument] })

/-- 95_test_vectors.md section 4, R146: two CHECKERRs with equal samples: the second makes no EM call and changes nothing. How
answers are held and used up is the model's choice (log entry 5). -/
def Obligations.SecondCheckerrWithSameSampleIsSilent : Prop :=
  ∀ s t : State, s.mod.initialised = true → exec .checkerr s = .next t → t.errorsAnswer = s.errorsAnswer →
    ∃ u, exec .checkerr t = .next u ∧ u.mod = t.mod ∧ u.trace = t.trace ++ [.htiErrors, .result .ok] ∧
      SameSurroundings t u ∧ AnswersAsIn t.askErrors u

/-! ### Rules of the whole machine -/

/-- R59, R70, R182: no operation changes the parameters or the words waiting at the input ports, and each only adds to what
the output ports have carried. -/
def Obligations.OperationsKeepParametersAndInputs : Prop :=
  ∀ (i : Instr) (s t : State), exec i s = .next t →
    t.params = s.params ∧ t.cmdIn = s.cmdIn ∧ t.evIn = s.evIn ∧ ∃ os, t.trace = s.trace ++ os

/-- R70, R170, R186: every command places exactly one result code, after its outputs; an event places none; and no operation
makes more outputs than R186 lists. -/
def Obligations.OutputsPerOperationAreBounded : Prop :=
  ∀ (i : Instr) (s t : State), exec i s = .next t →
    (i.port = .command → ∃ os c, t.trace = s.trace ++ os ++ [.result c] ∧ os.length ≤ maxOutputs i ∧
      ∀ o ∈ os, isResult o = false) ∧
    (i.port = .event → ∃ os, t.trace = s.trace ++ os ∧ os.length ≤ maxOutputs i ∧ ∀ o ∈ os, isResult o = false)

/-- R170, R171: a command places one 3-bit code on the result port, an event none; codes 5 to 7 never occur, 2 only from
INIT, 3 only from SETNORMAL and SEND, 4 only from SEND. -/
def Obligations.ResultCodesHaveTheirCommands : Prop :=
  ∀ (i : Instr) (s t : State), exec i s = .next t →
    (i.port = .event → t.resultPort = s.resultPort) ∧
    (i.port = .command → ∃ c : BitVec 3, t.resultPort = s.resultPort ++ [c] ∧ c.toNat ≤ 4 ∧
      (c = 2 → IsInit i) ∧ (c = 3 → i = .setnormal ∨ ∃ idx, i = .send idx) ∧ (c = 4 → ∃ idx, i = .send idx))

/-- R184: which operation reports and which resets which condition, by the conditions' numbers, with the subcode of the
condition. -/
def Obligations.ConditionsHaveTheirReporters : Prop :=
  ∀ (i : Instr) (s t : State) (os : List Output) (c : Condition), exec i s = .next t → t.trace = s.trace ++ os →
    (∀ sub v, Output.emReport c sub v ∈ os →
      sub = Config.subcode c ∧ c.number ≤ 5 ∧ (c.number ≤ 3 → i = .checkerr) ∧
      (c.number = 4 → ∃ idx, i = .send idx) ∧ (c.number = 5 → i = .abortsync)) ∧
    (∀ v, Output.emReset c v ∈ os →
      i = .checkerr ∧ c.number ≤ 4 ∧ (c.number = 3 → s.params.passiveClears = .receiveOverflow) ∧
      (c.number = 4 → s.params.passiveClears = .transmitOverflow))

/-- R26: no operation other than REGRX at the same index and INIT changes a receive row. -/
def Obligations.OnlyRegrxAndInitChangeReceiveRows : Prop :=
  ∀ (i : Instr) (s t : State) (j : Nat), exec i s = .next t → ¬ IsInit i →
    (∀ idx rtr id mask ctx cb, i = .regrx idx rtr id mask ctx cb → idx.toNat ≠ j) →
    t.mod.rxRow j = s.mod.rxRow j

/-- R28, R30, R32: identifier, length and sync flag of a transmit row are written only by REGTX and INIT, the payload only by
TXDATA and INIT. -/
def Obligations.TransmitRowFieldsHaveOneWriter : Prop :=
  ∀ (i : Instr) (s t : State) (j : Nat), exec i s = .next t → ¬ IsInit i →
    ((∀ sync idx rtr dlc id, i = .regtx sync idx rtr dlc id → idx.toNat ≠ j) →
      (t.mod.txRow j).ident = (s.mod.txRow j).ident ∧ (t.mod.txRow j).dlc = (s.mod.txRow j).dlc ∧
        (t.mod.txRow j).syncFlag = (s.mod.txRow j).syncFlag) ∧
    ((∀ idx data, i = .txdata idx data → idx.toNat ≠ j) → (t.mod.txRow j).data = (s.mod.txRow j).data)

/-- R33 to R39, R41 to R43, R55: which operation writes which register (INIT aside). -/
def Obligations.RegistersHaveTheirWriters : Prop :=
  ∀ (i : Instr) (s t : State), exec i s = .next t → ¬ IsInit i →
    t.mod.initialised = s.mod.initialised ∧ t.mod.rxCap = s.mod.rxCap ∧ t.mod.txCap = s.mod.txCap ∧
    t.mod.prescaler = s.mod.prescaler ∧ t.mod.hardwareFilteringEnabled = s.mod.hardwareFilteringEnabled ∧
    ((∀ idx, i ≠ .send idx) → i ≠ .drain → i ≠ .abortsync →
      t.mod.pendingTransmitCount = s.mod.pendingTransmitCount ∧
      (i ≠ .txconf → t.mod.syncAbortPending = s.mod.syncAbortPending)) ∧
    (i ≠ .txconf → t.mod.firstFrameSent = s.mod.firstFrameSent) ∧
    (i ≠ .setnormal → i ≠ .disable → t.mod.normalModeActive = s.mod.normalModeActive) ∧
    (i ≠ .checkerr → t.mod.lastErrorBitmap = s.mod.lastErrorBitmap ∧ t.mod.passiveActive = s.mod.passiveActive) ∧
    ((∀ rtr dlc id data, i ≠ .rxframe rtr dlc id data) →
      t.mod.rxBuf = s.mod.rxBuf ∧ (i ≠ .cbret → t.mod.rxBusy = s.mod.rxBusy))

/-- 95_test_vectors.md section 4, R105, R144: until the first confirmation no transmit overflow and no bus-passive is reported. -/
def Obligations.NoEarlyOverflowOrPassiveReport : Prop :=
  ∀ (i : Instr) (s t : State) (os : List Output), exec i s = .next t → s.mod.firstFrameSent = false →
    t.trace = s.trace ++ os →
    ∀ sub v, Output.emReport .transmitOverflow sub v ∉ os ∧ Output.emReport .busPassive sub v ∉ os

/-- R194: while nothing is confirmed yet and a frame is queued, no operation writes to the hardware and that situation stays,
but for INIT, TXCONF and ABORTSYNC (which can empty the queue). -/
def Obligations.QueuedFirstFrameBlocksTransmission : Prop :=
  ∀ (i : Instr) (s t : State) (os : List Output), exec i s = .next t → ¬ IsInit i → i ≠ .txconf → i ≠ .abortsync →
    s.mod.firstFrameSent = false → s.mod.pendingTransmitCount ≠ 0 → t.trace = s.trace ++ os →
    t.mod.firstFrameSent = false ∧ t.mod.pendingTransmitCount ≠ 0 ∧ ∀ f, Output.htiWrite f ∉ os

/-- R36, R158: no operation reads `normalModeActive`: with either value of it an operation emits the same and leaves the same
state but for that flag. -/
def Obligations.NormalModeIsNeverRead : Prop :=
  ∀ (i : Instr) (s t : State) (b : Bool), exec i s = .next t →
    ∃ u, exec i { s with mod := { s.mod with normalModeActive := b } } = .next u ∧
      u.trace = t.trace ∧ { u.mod with normalModeActive := t.mod.normalModeActive } = t.mod ∧
      u.answers = t.answers ∧ u.draws = t.draws ∧ SameSurroundings t u

/-- R45, R190: before INIT no operation depends on any part of the Module State but `initialised`, and what a successful INIT
leaves depends on none of it but `rxBuf`: the values chosen for power-on (log entry 3) are never seen. -/
def Obligations.UnspecifiedPowerOnStateIsNeverRead : Prop :=
  ∀ (i : Instr) (s : State) (m : ModuleState), s.mod.initialised = false → m.initialised = false →
    ∃ t u, exec i s = .next t ∧ exec i { s with mod := m } = .next u ∧ u.trace = t.trace ∧
      u.answers = t.answers ∧ u.draws = t.draws ∧ SameSurroundings t u ∧
      u.mod.initialised = t.mod.initialised ∧
      (t.mod.initialised = true → { u.mod with rxBuf := t.mod.rxBuf } = t.mod)

/-- R22, R23, R25, R33, R41 and 95_test_vectors.md section 4: every step keeps the invariant of Sys2Proof.Machine.State.Inv. -/
def Obligations.EveryStepKeepsTheInvariant : Prop :=
  ∀ s t : State, s.Inv → step s = .next t → t.Inv

/-- R45: at power-on `initialised` is 0, and the invariant holds there. That no word waits at an input port (log entries 6 and
8) and that the trace is empty (log entry 9) are the model's choices. -/
def Obligations.PowerOnMeetsTheInvariant : Prop :=
  State.reset.Inv ∧ State.reset.mod.initialised = false ∧ State.reset.cmdIn = [] ∧ State.reset.evIn = [] ∧
    State.reset.trace = []

/-- R33, R115: under the refuse policy the count equals the number of full slots after every step, and is at most `txCap`. -/
def Obligations.CountEqualsFullSlotsAfterEveryStep : Prop :=
  ∀ s t : State, s.Inv → s.params.usage = .refuse → step s = .next t → t.mod.initialised = true →
    (t.mod.tx.take t.mod.txCap.toNat).countP (·.full) = t.mod.pendingTransmitCount.toNat ∧
      t.mod.pendingTransmitCount.toNat ≤ t.mod.txCap.toNat

/-- R33, R115: in a state that meets the invariant no decrement of the count is ever refused: DRAIN and ABORTSYNC complete. -/
def Obligations.DrainAndAbortsyncAlwaysComplete : Prop :=
  ∀ s : State, s.Inv → s.mod.initialised = true →
    (∃ t, exec .drain s = .next t) ∧ (∃ t, exec .abortsync s = .next t)

/-- R172 and log entry 2: under the literal policy every operation completes, the count being below 65535 (R33) and no
dispatch in flight when a frame arrives (R130). -/
def Obligations.LiteralHardwareAlwaysGoesOn : Prop :=
  ∀ (i : Instr) (s : State), s.Inv → s.params.usage = .literal → s.mod.pendingTransmitCount ≠ 0xFFFF →
    (∀ rtr dlc id data, i = .rxframe rtr dlc id data → s.mod.rxBusy = false) →
    ∃ t, exec i s = .next t

end
end

