-- ==== Sys2Proof/Laws/State.lean ====
section
/-! SUPPORT. One lemma per field per update, true by rfl: of the Module State, then of the whole state. -/

namespace Sys2Proof.Machine

/-! ### Updates of the Module State -/

section
variable (m : ModuleState)

@[simp] theorem ModuleState.setRxRow_rx (i : Nat) (r : RxSlot) : (m.setRxRow i r).rx = m.rx.set i r := rfl
@[simp] theorem ModuleState.setRxRow_tx (i : Nat) (r : RxSlot) : (m.setRxRow i r).tx = m.tx := rfl
@[simp] theorem ModuleState.setRxRow_pendingTransmitCount (i : Nat) (r : RxSlot) : (m.setRxRow i r).pendingTransmitCount = m.pendingTransmitCount := rfl
@[simp] theorem ModuleState.setRxRow_normalModeActive (i : Nat) (r : RxSlot) : (m.setRxRow i r).normalModeActive = m.normalModeActive := rfl
@[simp] theorem ModuleState.setRxRow_hardwareFilteringEnabled (i : Nat) (r : RxSlot) : (m.setRxRow i r).hardwareFilteringEnabled = m.hardwareFilteringEnabled := rfl
@[simp] theorem ModuleState.setRxRow_syncAbortPending (i : Nat) (r : RxSlot) : (m.setRxRow i r).syncAbortPending = m.syncAbortPending := rfl
@[simp] theorem ModuleState.setRxRow_firstFrameSent (i : Nat) (r : RxSlot) : (m.setRxRow i r).firstFrameSent = m.firstFrameSent := rfl
@[simp] theorem ModuleState.setRxRow_lastErrorBitmap (i : Nat) (r : RxSlot) : (m.setRxRow i r).lastErrorBitmap = m.lastErrorBitmap := rfl
@[simp] theorem ModuleState.setRxRow_passiveActive (i : Nat) (r : RxSlot) : (m.setRxRow i r).passiveActive = m.passiveActive := rfl
@[simp] theorem ModuleState.setRxRow_rxCap (i : Nat) (r : RxSlot) : (m.setRxRow i r).rxCap = m.rxCap := rfl
@[simp] theorem ModuleState.setRxRow_txCap (i : Nat) (r : RxSlot) : (m.setRxRow i r).txCap = m.txCap := rfl
@[simp] theorem ModuleState.setRxRow_prescaler (i : Nat) (r : RxSlot) : (m.setRxRow i r).prescaler = m.prescaler := rfl
@[simp] theorem ModuleState.setRxRow_rxBuf (i : Nat) (r : RxSlot) : (m.setRxRow i r).rxBuf = m.rxBuf := rfl
@[simp] theorem ModuleState.setRxRow_rxBusy (i : Nat) (r : RxSlot) : (m.setRxRow i r).rxBusy = m.rxBusy := rfl
@[simp] theorem ModuleState.setRxRow_initialised (i : Nat) (r : RxSlot) : (m.setRxRow i r).initialised = m.initialised := rfl

@[simp] theorem ModuleState.setTxRow_rx (i : Nat) (r : TxSlot) : (m.setTxRow i r).rx = m.rx := rfl
@[simp] theorem ModuleState.setTxRow_tx (i : Nat) (r : TxSlot) : (m.setTxRow i r).tx = m.tx.set i r := rfl
@[simp] theorem ModuleState.setTxRow_pendingTransmitCount (i : Nat) (r : TxSlot) : (m.setTxRow i r).pendingTransmitCount = m.pendingTransmitCount := rfl
@[simp] theorem ModuleState.setTxRow_normalModeActive (i : Nat) (r : TxSlot) : (m.setTxRow i r).normalModeActive = m.normalModeActive := rfl
@[simp] theorem ModuleState.setTxRow_hardwareFilteringEnabled (i : Nat) (r : TxSlot) : (m.setTxRow i r).hardwareFilteringEnabled = m.hardwareFilteringEnabled := rfl
@[simp] theorem ModuleState.setTxRow_syncAbortPending (i : Nat) (r : TxSlot) : (m.setTxRow i r).syncAbortPending = m.syncAbortPending := rfl
@[simp] theorem ModuleState.setTxRow_firstFrameSent (i : Nat) (r : TxSlot) : (m.setTxRow i r).firstFrameSent = m.firstFrameSent := rfl
@[simp] theorem ModuleState.setTxRow_lastErrorBitmap (i : Nat) (r : TxSlot) : (m.setTxRow i r).lastErrorBitmap = m.lastErrorBitmap := rfl
@[simp] theorem ModuleState.setTxRow_passiveActive (i : Nat) (r : TxSlot) : (m.setTxRow i r).passiveActive = m.passiveActive := rfl
@[simp] theorem ModuleState.setTxRow_rxCap (i : Nat) (r : TxSlot) : (m.setTxRow i r).rxCap = m.rxCap := rfl
@[simp] theorem ModuleState.setTxRow_txCap (i : Nat) (r : TxSlot) : (m.setTxRow i r).txCap = m.txCap := rfl
@[simp] theorem ModuleState.setTxRow_prescaler (i : Nat) (r : TxSlot) : (m.setTxRow i r).prescaler = m.prescaler := rfl
@[simp] theorem ModuleState.setTxRow_rxBuf (i : Nat) (r : TxSlot) : (m.setTxRow i r).rxBuf = m.rxBuf := rfl
@[simp] theorem ModuleState.setTxRow_rxBusy (i : Nat) (r : TxSlot) : (m.setTxRow i r).rxBusy = m.rxBusy := rfl
@[simp] theorem ModuleState.setTxRow_initialised (i : Nat) (r : TxSlot) : (m.setTxRow i r).initialised = m.initialised := rfl

@[simp] theorem ModuleState.setTx_rx (l : List TxSlot) : (m.setTx l).rx = m.rx := rfl
@[simp] theorem ModuleState.setTx_tx (l : List TxSlot) : (m.setTx l).tx = l := rfl
@[simp] theorem ModuleState.setTx_pendingTransmitCount (l : List TxSlot) : (m.setTx l).pendingTransmitCount = m.pendingTransmitCount := rfl
@[simp] theorem ModuleState.setTx_normalModeActive (l : List TxSlot) : (m.setTx l).normalModeActive = m.normalModeActive := rfl
@[simp] theorem ModuleState.setTx_hardwareFilteringEnabled (l : List TxSlot) : (m.setTx l).hardwareFilteringEnabled = m.hardwareFilteringEnabled := rfl
@[simp] theorem ModuleState.setTx_syncAbortPending (l : List TxSlot) : (m.setTx l).syncAbortPending = m.syncAbortPending := rfl
@[simp] theorem ModuleState.setTx_firstFrameSent (l : List TxSlot) : (m.setTx l).firstFrameSent = m.firstFrameSent := rfl
@[simp] theorem ModuleState.setTx_lastErrorBitmap (l : List TxSlot) : (m.setTx l).lastErrorBitmap = m.lastErrorBitmap := rfl
@[simp] theorem ModuleState.setTx_passiveActive (l : List TxSlot) : (m.setTx l).passiveActive = m.passiveActive := rfl
@[simp] theorem ModuleState.setTx_rxCap (l : List TxSlot) : (m.setTx l).rxCap = m.rxCap := rfl
@[simp] theorem ModuleState.setTx_txCap (l : List TxSlot) : (m.setTx l).txCap = m.txCap := rfl
@[simp] theorem ModuleState.setTx_prescaler (l : List TxSlot) : (m.setTx l).prescaler = m.prescaler := rfl
@[simp] theorem ModuleState.setTx_rxBuf (l : List TxSlot) : (m.setTx l).rxBuf = m.rxBuf := rfl
@[simp] theorem ModuleState.setTx_rxBusy (l : List TxSlot) : (m.setTx l).rxBusy = m.rxBusy := rfl
@[simp] theorem ModuleState.setTx_initialised (l : List TxSlot) : (m.setTx l).initialised = m.initialised := rfl

@[simp] theorem ModuleState.setCount_rx (n : BitVec 16) : (m.setCount n).rx = m.rx := rfl
@[simp] theorem ModuleState.setCount_tx (n : BitVec 16) : (m.setCount n).tx = m.tx := rfl
@[simp] theorem ModuleState.setCount_pendingTransmitCount (n : BitVec 16) : (m.setCount n).pendingTransmitCount = n := rfl
@[simp] theorem ModuleState.setCount_normalModeActive (n : BitVec 16) : (m.setCount n).normalModeActive = m.normalModeActive := rfl
@[simp] theorem ModuleState.setCount_hardwareFilteringEnabled (n : BitVec 16) : (m.setCount n).hardwareFilteringEnabled = m.hardwareFilteringEnabled := rfl
@[simp] theorem ModuleState.setCount_syncAbortPending (n : BitVec 16) : (m.setCount n).syncAbortPending = m.syncAbortPending := rfl
@[simp] theorem ModuleState.setCount_firstFrameSent (n : BitVec 16) : (m.setCount n).firstFrameSent = m.firstFrameSent := rfl
@[simp] theorem ModuleState.setCount_lastErrorBitmap (n : BitVec 16) : (m.setCount n).lastErrorBitmap = m.lastErrorBitmap := rfl
@[simp] theorem ModuleState.setCount_passiveActive (n : BitVec 16) : (m.setCount n).passiveActive = m.passiveActive := rfl
@[simp] theorem ModuleState.setCount_rxCap (n : BitVec 16) : (m.setCount n).rxCap = m.rxCap := rfl
@[simp] theorem ModuleState.setCount_txCap (n : BitVec 16) : (m.setCount n).txCap = m.txCap := rfl
@[simp] theorem ModuleState.setCount_prescaler (n : BitVec 16) : (m.setCount n).prescaler = m.prescaler := rfl
@[simp] theorem ModuleState.setCount_rxBuf (n : BitVec 16) : (m.setCount n).rxBuf = m.rxBuf := rfl
@[simp] theorem ModuleState.setCount_rxBusy (n : BitVec 16) : (m.setCount n).rxBusy = m.rxBusy := rfl
@[simp] theorem ModuleState.setCount_initialised (n : BitVec 16) : (m.setCount n).initialised = m.initialised := rfl

@[simp] theorem ModuleState.setNormal_rx (b : Bool) : (m.setNormal b).rx = m.rx := rfl
@[simp] theorem ModuleState.setNormal_tx (b : Bool) : (m.setNormal b).tx = m.tx := rfl
@[simp] theorem ModuleState.setNormal_pendingTransmitCount (b : Bool) : (m.setNormal b).pendingTransmitCount = m.pendingTransmitCount := rfl
@[simp] theorem ModuleState.setNormal_normalModeActive (b : Bool) : (m.setNormal b).normalModeActive = b := rfl
@[simp] theorem ModuleState.setNormal_hardwareFilteringEnabled (b : Bool) : (m.setNormal b).hardwareFilteringEnabled = m.hardwareFilteringEnabled := rfl
@[simp] theorem ModuleState.setNormal_syncAbortPending (b : Bool) : (m.setNormal b).syncAbortPending = m.syncAbortPending := rfl
@[simp] theorem ModuleState.setNormal_firstFrameSent (b : Bool) : (m.setNormal b).firstFrameSent = m.firstFrameSent := rfl
@[simp] theorem ModuleState.setNormal_lastErrorBitmap (b : Bool) : (m.setNormal b).lastErrorBitmap = m.lastErrorBitmap := rfl
@[simp] theorem ModuleState.setNormal_passiveActive (b : Bool) : (m.setNormal b).passiveActive = m.passiveActive := rfl
@[simp] theorem ModuleState.setNormal_rxCap (b : Bool) : (m.setNormal b).rxCap = m.rxCap := rfl
@[simp] theorem ModuleState.setNormal_txCap (b : Bool) : (m.setNormal b).txCap = m.txCap := rfl
@[simp] theorem ModuleState.setNormal_prescaler (b : Bool) : (m.setNormal b).prescaler = m.prescaler := rfl
@[simp] theorem ModuleState.setNormal_rxBuf (b : Bool) : (m.setNormal b).rxBuf = m.rxBuf := rfl
@[simp] theorem ModuleState.setNormal_rxBusy (b : Bool) : (m.setNormal b).rxBusy = m.rxBusy := rfl
@[simp] theorem ModuleState.setNormal_initialised (b : Bool) : (m.setNormal b).initialised = m.initialised := rfl

@[simp] theorem ModuleState.setSyncAbort_rx (b : Bool) : (m.setSyncAbort b).rx = m.rx := rfl
@[simp] theorem ModuleState.setSyncAbort_tx (b : Bool) : (m.setSyncAbort b).tx = m.tx := rfl
@[simp] theorem ModuleState.setSyncAbort_pendingTransmitCount (b : Bool) : (m.setSyncAbort b).pendingTransmitCount = m.pendingTransmitCount := rfl
@[simp] theorem ModuleState.setSyncAbort_normalModeActive (b : Bool) : (m.setSyncAbort b).normalModeActive = m.normalModeActive := rfl
@[simp] theorem ModuleState.setSyncAbort_hardwareFilteringEnabled (b : Bool) : (m.setSyncAbort b).hardwareFilteringEnabled = m.hardwareFilteringEnabled := rfl
@[simp] theorem ModuleState.setSyncAbort_syncAbortPending (b : Bool) : (m.setSyncAbort b).syncAbortPending = b := rfl
@[simp] theorem ModuleState.setSyncAbort_firstFrameSent (b : Bool) : (m.setSyncAbort b).firstFrameSent = m.firstFrameSent := rfl
@[simp] theorem ModuleState.setSyncAbort_lastErrorBitmap (b : Bool) : (m.setSyncAbort b).lastErrorBitmap = m.lastErrorBitmap := rfl
@[simp] theorem ModuleState.setSyncAbort_passiveActive (b : Bool) : (m.setSyncAbort b).passiveActive = m.passiveActive := rfl
@[simp] theorem ModuleState.setSyncAbort_rxCap (b : Bool) : (m.setSyncAbort b).rxCap = m.rxCap := rfl
@[simp] theorem ModuleState.setSyncAbort_txCap (b : Bool) : (m.setSyncAbort b).txCap = m.txCap := rfl
@[simp] theorem ModuleState.setSyncAbort_prescaler (b : Bool) : (m.setSyncAbort b).prescaler = m.prescaler := rfl
@[simp] theorem ModuleState.setSyncAbort_rxBuf (b : Bool) : (m.setSyncAbort b).rxBuf = m.rxBuf := rfl
@[simp] theorem ModuleState.setSyncAbort_rxBusy (b : Bool) : (m.setSyncAbort b).rxBusy = m.rxBusy := rfl
@[simp] theorem ModuleState.setSyncAbort_initialised (b : Bool) : (m.setSyncAbort b).initialised = m.initialised := rfl

@[simp] theorem ModuleState.setFirstSent_rx (b : Bool) : (m.setFirstSent b).rx = m.rx := rfl
@[simp] theorem ModuleState.setFirstSent_tx (b : Bool) : (m.setFirstSent b).tx = m.tx := rfl
@[simp] theorem ModuleState.setFirstSent_pendingTransmitCount (b : Bool) : (m.setFirstSent b).pendingTransmitCount = m.pendingTransmitCount := rfl
@[simp] theorem ModuleState.setFirstSent_normalModeActive (b : Bool) : (m.setFirstSent b).normalModeActive = m.normalModeActive := rfl
@[simp] theorem ModuleState.setFirstSent_hardwareFilteringEnabled (b : Bool) : (m.setFirstSent b).hardwareFilteringEnabled = m.hardwareFilteringEnabled := rfl
@[simp] theorem ModuleState.setFirstSent_syncAbortPending (b : Bool) : (m.setFirstSent b).syncAbortPending = m.syncAbortPending := rfl
@[simp] theorem ModuleState.setFirstSent_firstFrameSent (b : Bool) : (m.setFirstSent b).firstFrameSent = b := rfl
@[simp] theorem ModuleState.setFirstSent_lastErrorBitmap (b : Bool) : (m.setFirstSent b).lastErrorBitmap = m.lastErrorBitmap := rfl
@[simp] theorem ModuleState.setFirstSent_passiveActive (b : Bool) : (m.setFirstSent b).passiveActive = m.passiveActive := rfl
@[simp] theorem ModuleState.setFirstSent_rxCap (b : Bool) : (m.setFirstSent b).rxCap = m.rxCap := rfl
@[simp] theorem ModuleState.setFirstSent_txCap (b : Bool) : (m.setFirstSent b).txCap = m.txCap := rfl
@[simp] theorem ModuleState.setFirstSent_prescaler (b : Bool) : (m.setFirstSent b).prescaler = m.prescaler := rfl
@[simp] theorem ModuleState.setFirstSent_rxBuf (b : Bool) : (m.setFirstSent b).rxBuf = m.rxBuf := rfl
@[simp] theorem ModuleState.setFirstSent_rxBusy (b : Bool) : (m.setFirstSent b).rxBusy = m.rxBusy := rfl
@[simp] theorem ModuleState.setFirstSent_initialised (b : Bool) : (m.setFirstSent b).initialised = m.initialised := rfl

@[simp] theorem ModuleState.setLastErrors_rx (e : Word) : (m.setLastErrors e).rx = m.rx := rfl
@[simp] theorem ModuleState.setLastErrors_tx (e : Word) : (m.setLastErrors e).tx = m.tx := rfl
@[simp] theorem ModuleState.setLastErrors_pendingTransmitCount (e : Word) : (m.setLastErrors e).pendingTransmitCount = m.pendingTransmitCount := rfl
@[simp] theorem ModuleState.setLastErrors_normalModeActive (e : Word) : (m.setLastErrors e).normalModeActive = m.normalModeActive := rfl
@[simp] theorem ModuleState.setLastErrors_hardwareFilteringEnabled (e : Word) : (m.setLastErrors e).hardwareFilteringEnabled = m.hardwareFilteringEnabled := rfl
@[simp] theorem ModuleState.setLastErrors_syncAbortPending (e : Word) : (m.setLastErrors e).syncAbortPending = m.syncAbortPending := rfl
@[simp] theorem ModuleState.setLastErrors_firstFrameSent (e : Word) : (m.setLastErrors e).firstFrameSent = m.firstFrameSent := rfl
@[simp] theorem ModuleState.setLastErrors_lastErrorBitmap (e : Word) : (m.setLastErrors e).lastErrorBitmap = e := rfl
@[simp] theorem ModuleState.setLastErrors_passiveActive (e : Word) : (m.setLastErrors e).passiveActive = m.passiveActive := rfl
@[simp] theorem ModuleState.setLastErrors_rxCap (e : Word) : (m.setLastErrors e).rxCap = m.rxCap := rfl
@[simp] theorem ModuleState.setLastErrors_txCap (e : Word) : (m.setLastErrors e).txCap = m.txCap := rfl
@[simp] theorem ModuleState.setLastErrors_prescaler (e : Word) : (m.setLastErrors e).prescaler = m.prescaler := rfl
@[simp] theorem ModuleState.setLastErrors_rxBuf (e : Word) : (m.setLastErrors e).rxBuf = m.rxBuf := rfl
@[simp] theorem ModuleState.setLastErrors_rxBusy (e : Word) : (m.setLastErrors e).rxBusy = m.rxBusy := rfl
@[simp] theorem ModuleState.setLastErrors_initialised (e : Word) : (m.setLastErrors e).initialised = m.initialised := rfl

@[simp] theorem ModuleState.setPassive_rx (b : Bool) : (m.setPassive b).rx = m.rx := rfl
@[simp] theorem ModuleState.setPassive_tx (b : Bool) : (m.setPassive b).tx = m.tx := rfl
@[simp] theorem ModuleState.setPassive_pendingTransmitCount (b : Bool) : (m.setPassive b).pendingTransmitCount = m.pendingTransmitCount := rfl
@[simp] theorem ModuleState.setPassive_normalModeActive (b : Bool) : (m.setPassive b).normalModeActive = m.normalModeActive := rfl
@[simp] theorem ModuleState.setPassive_hardwareFilteringEnabled (b : Bool) : (m.setPassive b).hardwareFilteringEnabled = m.hardwareFilteringEnabled := rfl
@[simp] theorem ModuleState.setPassive_syncAbortPending (b : Bool) : (m.setPassive b).syncAbortPending = m.syncAbortPending := rfl
@[simp] theorem ModuleState.setPassive_firstFrameSent (b : Bool) : (m.setPassive b).firstFrameSent = m.firstFrameSent := rfl
@[simp] theorem ModuleState.setPassive_lastErrorBitmap (b : Bool) : (m.setPassive b).lastErrorBitmap = m.lastErrorBitmap := rfl
@[simp] theorem ModuleState.setPassive_passiveActive (b : Bool) : (m.setPassive b).passiveActive = b := rfl
@[simp] theorem ModuleState.setPassive_rxCap (b : Bool) : (m.setPassive b).rxCap = m.rxCap := rfl
@[simp] theorem ModuleState.setPassive_txCap (b : Bool) : (m.setPassive b).txCap = m.txCap := rfl
@[simp] theorem ModuleState.setPassive_prescaler (b : Bool) : (m.setPassive b).prescaler = m.prescaler := rfl
@[simp] theorem ModuleState.setPassive_rxBuf (b : Bool) : (m.setPassive b).rxBuf = m.rxBuf := rfl
@[simp] theorem ModuleState.setPassive_rxBusy (b : Bool) : (m.setPassive b).rxBusy = m.rxBusy := rfl
@[simp] theorem ModuleState.setPassive_initialised (b : Bool) : (m.setPassive b).initialised = m.initialised := rfl

@[simp] theorem ModuleState.setRxBuf_rx (f : Frame) : (m.setRxBuf f).rx = m.rx := rfl
@[simp] theorem ModuleState.setRxBuf_tx (f : Frame) : (m.setRxBuf f).tx = m.tx := rfl
@[simp] theorem ModuleState.setRxBuf_pendingTransmitCount (f : Frame) : (m.setRxBuf f).pendingTransmitCount = m.pendingTransmitCount := rfl
@[simp] theorem ModuleState.setRxBuf_normalModeActive (f : Frame) : (m.setRxBuf f).normalModeActive = m.normalModeActive := rfl
@[simp] theorem ModuleState.setRxBuf_hardwareFilteringEnabled (f : Frame) : (m.setRxBuf f).hardwareFilteringEnabled = m.hardwareFilteringEnabled := rfl
@[simp] theorem ModuleState.setRxBuf_syncAbortPending (f : Frame) : (m.setRxBuf f).syncAbortPending = m.syncAbortPending := rfl
@[simp] theorem ModuleState.setRxBuf_firstFrameSent (f : Frame) : (m.setRxBuf f).firstFrameSent = m.firstFrameSent := rfl
@[simp] theorem ModuleState.setRxBuf_lastErrorBitmap (f : Frame) : (m.setRxBuf f).lastErrorBitmap = m.lastErrorBitmap := rfl
@[simp] theorem ModuleState.setRxBuf_passiveActive (f : Frame) : (m.setRxBuf f).passiveActive = m.passiveActive := rfl
@[simp] theorem ModuleState.setRxBuf_rxCap (f : Frame) : (m.setRxBuf f).rxCap = m.rxCap := rfl
@[simp] theorem ModuleState.setRxBuf_txCap (f : Frame) : (m.setRxBuf f).txCap = m.txCap := rfl
@[simp] theorem ModuleState.setRxBuf_prescaler (f : Frame) : (m.setRxBuf f).prescaler = m.prescaler := rfl
@[simp] theorem ModuleState.setRxBuf_rxBuf (f : Frame) : (m.setRxBuf f).rxBuf = f := rfl
@[simp] theorem ModuleState.setRxBuf_rxBusy (f : Frame) : (m.setRxBuf f).rxBusy = m.rxBusy := rfl
@[simp] theorem ModuleState.setRxBuf_initialised (f : Frame) : (m.setRxBuf f).initialised = m.initialised := rfl

@[simp] theorem ModuleState.setRxBusy_rx (b : Bool) : (m.setRxBusy b).rx = m.rx := rfl
@[simp] theorem ModuleState.setRxBusy_tx (b : Bool) : (m.setRxBusy b).tx = m.tx := rfl
@[simp] theorem ModuleState.setRxBusy_pendingTransmitCount (b : Bool) : (m.setRxBusy b).pendingTransmitCount = m.pendingTransmitCount := rfl
@[simp] theorem ModuleState.setRxBusy_normalModeActive (b : Bool) : (m.setRxBusy b).normalModeActive = m.normalModeActive := rfl
@[simp] theorem ModuleState.setRxBusy_hardwareFilteringEnabled (b : Bool) : (m.setRxBusy b).hardwareFilteringEnabled = m.hardwareFilteringEnabled := rfl
@[simp] theorem ModuleState.setRxBusy_syncAbortPending (b : Bool) : (m.setRxBusy b).syncAbortPending = m.syncAbortPending := rfl
@[simp] theorem ModuleState.setRxBusy_firstFrameSent (b : Bool) : (m.setRxBusy b).firstFrameSent = m.firstFrameSent := rfl
@[simp] theorem ModuleState.setRxBusy_lastErrorBitmap (b : Bool) : (m.setRxBusy b).lastErrorBitmap = m.lastErrorBitmap := rfl
@[simp] theorem ModuleState.setRxBusy_passiveActive (b : Bool) : (m.setRxBusy b).passiveActive = m.passiveActive := rfl
@[simp] theorem ModuleState.setRxBusy_rxCap (b : Bool) : (m.setRxBusy b).rxCap = m.rxCap := rfl
@[simp] theorem ModuleState.setRxBusy_txCap (b : Bool) : (m.setRxBusy b).txCap = m.txCap := rfl
@[simp] theorem ModuleState.setRxBusy_prescaler (b : Bool) : (m.setRxBusy b).prescaler = m.prescaler := rfl
@[simp] theorem ModuleState.setRxBusy_rxBuf (b : Bool) : (m.setRxBusy b).rxBuf = m.rxBuf := rfl
@[simp] theorem ModuleState.setRxBusy_rxBusy (b : Bool) : (m.setRxBusy b).rxBusy = b := rfl
@[simp] theorem ModuleState.setRxBusy_initialised (b : Bool) : (m.setRxBusy b).initialised = m.initialised := rfl

@[simp] theorem ModuleState.afterInit_rx (p : Params) (r : Rate) (t c : BitVec 16) : (m.afterInit p r t c).rx = List.replicate p.rxMax.val RxSlot.zero := rfl
@[simp] theorem ModuleState.afterInit_tx (p : Params) (r : Rate) (t c : BitVec 16) : (m.afterInit p r t c).tx = List.replicate p.txMax.val TxSlot.zero := rfl
@[simp] theorem ModuleState.afterInit_pendingTransmitCount (p : Params) (r : Rate) (t c : BitVec 16) : (m.afterInit p r t c).pendingTransmitCount = 0 := rfl
@[simp] theorem ModuleState.afterInit_normalModeActive (p : Params) (r : Rate) (t c : BitVec 16) : (m.afterInit p r t c).normalModeActive = false := rfl
@[simp] theorem ModuleState.afterInit_hardwareFilteringEnabled (p : Params) (r : Rate) (t c : BitVec 16) : (m.afterInit p r t c).hardwareFilteringEnabled = false := rfl
@[simp] theorem ModuleState.afterInit_syncAbortPending (p : Params) (r : Rate) (t c : BitVec 16) : (m.afterInit p r t c).syncAbortPending = false := rfl
@[simp] theorem ModuleState.afterInit_firstFrameSent (p : Params) (r : Rate) (t c : BitVec 16) : (m.afterInit p r t c).firstFrameSent = false := rfl
@[simp] theorem ModuleState.afterInit_lastErrorBitmap (p : Params) (r : Rate) (t c : BitVec 16) : (m.afterInit p r t c).lastErrorBitmap = 0 := rfl
@[simp] theorem ModuleState.afterInit_passiveActive (p : Params) (r : Rate) (t c : BitVec 16) : (m.afterInit p r t c).passiveActive = false := rfl
@[simp] theorem ModuleState.afterInit_rxCap (p : Params) (r : Rate) (t c : BitVec 16) : (m.afterInit p r t c).rxCap = c.setWidth 9 := rfl
@[simp] theorem ModuleState.afterInit_txCap (p : Params) (r : Rate) (t c : BitVec 16) : (m.afterInit p r t c).txCap = t.setWidth 9 := rfl
@[simp] theorem ModuleState.afterInit_prescaler (p : Params) (r : Rate) (t c : BitVec 16) : (m.afterInit p r t c).prescaler = Config.prescaler r := rfl
@[simp] theorem ModuleState.afterInit_rxBuf (p : Params) (r : Rate) (t c : BitVec 16) : (m.afterInit p r t c).rxBuf = m.rxBuf := rfl
@[simp] theorem ModuleState.afterInit_rxBusy (p : Params) (r : Rate) (t c : BitVec 16) : (m.afterInit p r t c).rxBusy = false := rfl
@[simp] theorem ModuleState.afterInit_initialised (p : Params) (r : Rate) (t c : BitVec 16) : (m.afterInit p r t c).initialised = true := rfl

end

/-! ### Updates of the whole state -/

section
variable (s : State)

@[simp] theorem State.withMod_mod (m : ModuleState) : (s.withMod m).mod = m := rfl
@[simp] theorem State.withMod_params (m : ModuleState) : (s.withMod m).params = s.params := rfl
@[simp] theorem State.withMod_txRegistered (m : ModuleState) : (s.withMod m).txRegistered = s.txRegistered := rfl
@[simp] theorem State.withMod_cmdIn (m : ModuleState) : (s.withMod m).cmdIn = s.cmdIn := rfl
@[simp] theorem State.withMod_evIn (m : ModuleState) : (s.withMod m).evIn = s.evIn := rfl
@[simp] theorem State.withMod_answers (m : ModuleState) : (s.withMod m).answers = s.answers := rfl
@[simp] theorem State.withMod_draws (m : ModuleState) : (s.withMod m).draws = s.draws := rfl
@[simp] theorem State.withMod_trace (m : ModuleState) : (s.withMod m).trace = s.trace := rfl

@[simp] theorem State.emit_mod (o : Output) : (s.emit o).mod = s.mod := rfl
@[simp] theorem State.emit_params (o : Output) : (s.emit o).params = s.params := rfl
@[simp] theorem State.emit_txRegistered (o : Output) : (s.emit o).txRegistered = s.txRegistered := rfl
@[simp] theorem State.emit_cmdIn (o : Output) : (s.emit o).cmdIn = s.cmdIn := rfl
@[simp] theorem State.emit_evIn (o : Output) : (s.emit o).evIn = s.evIn := rfl
@[simp] theorem State.emit_answers (o : Output) : (s.emit o).answers = s.answers := rfl
@[simp] theorem State.emit_draws (o : Output) : (s.emit o).draws = s.draws := rfl
@[simp] theorem State.emit_trace (o : Output) : (s.emit o).trace = s.trace ++ [o] := rfl

@[simp] theorem State.emitAll_mod (l : List Output) : (s.emitAll l).mod = s.mod := rfl
@[simp] theorem State.emitAll_params (l : List Output) : (s.emitAll l).params = s.params := rfl
@[simp] theorem State.emitAll_txRegistered (l : List Output) : (s.emitAll l).txRegistered = s.txRegistered := rfl
@[simp] theorem State.emitAll_cmdIn (l : List Output) : (s.emitAll l).cmdIn = s.cmdIn := rfl
@[simp] theorem State.emitAll_evIn (l : List Output) : (s.emitAll l).evIn = s.evIn := rfl
@[simp] theorem State.emitAll_answers (l : List Output) : (s.emitAll l).answers = s.answers := rfl
@[simp] theorem State.emitAll_draws (l : List Output) : (s.emitAll l).draws = s.draws := rfl
@[simp] theorem State.emitAll_trace (l : List Output) : (s.emitAll l).trace = s.trace ++ l := rfl

@[simp] theorem State.withRegistered_mod (l : List SlotIndex) : (s.withRegistered l).mod = s.mod := rfl
@[simp] theorem State.withRegistered_params (l : List SlotIndex) : (s.withRegistered l).params = s.params := rfl
@[simp] theorem State.withRegistered_txRegistered (l : List SlotIndex) : (s.withRegistered l).txRegistered = l := rfl
@[simp] theorem State.withRegistered_cmdIn (l : List SlotIndex) : (s.withRegistered l).cmdIn = s.cmdIn := rfl
@[simp] theorem State.withRegistered_evIn (l : List SlotIndex) : (s.withRegistered l).evIn = s.evIn := rfl
@[simp] theorem State.withRegistered_answers (l : List SlotIndex) : (s.withRegistered l).answers = s.answers := rfl
@[simp] theorem State.withRegistered_draws (l : List SlotIndex) : (s.withRegistered l).draws = s.draws := rfl
@[simp] theorem State.withRegistered_trace (l : List SlotIndex) : (s.withRegistered l).trace = s.trace := rfl

@[simp] theorem State.draw_mod : s.draw.mod = s.mod := rfl
@[simp] theorem State.draw_params : s.draw.params = s.params := rfl
@[simp] theorem State.draw_txRegistered : s.draw.txRegistered = s.txRegistered := rfl
@[simp] theorem State.draw_cmdIn : s.draw.cmdIn = s.cmdIn := rfl
@[simp] theorem State.draw_evIn : s.draw.evIn = s.evIn := rfl
@[simp] theorem State.draw_answers : s.draw.answers = s.answers := rfl
@[simp] theorem State.draw_draws : s.draw.draws = s.draws + 1 := rfl
@[simp] theorem State.draw_trace : s.draw.trace = s.trace := rfl

@[simp] theorem State.withAnswers_mod (a : Answers) : (s.withAnswers a).mod = s.mod := rfl
@[simp] theorem State.withAnswers_params (a : Answers) : (s.withAnswers a).params = s.params := rfl
@[simp] theorem State.withAnswers_txRegistered (a : Answers) : (s.withAnswers a).txRegistered = s.txRegistered := rfl
@[simp] theorem State.withAnswers_cmdIn (a : Answers) : (s.withAnswers a).cmdIn = s.cmdIn := rfl
@[simp] theorem State.withAnswers_evIn (a : Answers) : (s.withAnswers a).evIn = s.evIn := rfl
@[simp] theorem State.withAnswers_answers (a : Answers) : (s.withAnswers a).answers = a := rfl
@[simp] theorem State.withAnswers_draws (a : Answers) : (s.withAnswers a).draws = s.draws := rfl
@[simp] theorem State.withAnswers_trace (a : Answers) : (s.withAnswers a).trace = s.trace := rfl

@[simp] theorem State.setQueue_command_mod (ws : List Word) : (s.setQueue .command ws).mod = s.mod := rfl
@[simp] theorem State.setQueue_command_params (ws : List Word) : (s.setQueue .command ws).params = s.params := rfl
@[simp] theorem State.setQueue_command_txRegistered (ws : List Word) : (s.setQueue .command ws).txRegistered = s.txRegistered := rfl
@[simp] theorem State.setQueue_command_cmdIn (ws : List Word) : (s.setQueue .command ws).cmdIn = ws := rfl
@[simp] theorem State.setQueue_command_evIn (ws : List Word) : (s.setQueue .command ws).evIn = s.evIn := rfl
@[simp] theorem State.setQueue_command_answers (ws : List Word) : (s.setQueue .command ws).answers = s.answers := rfl
@[simp] theorem State.setQueue_command_draws (ws : List Word) : (s.setQueue .command ws).draws = s.draws := rfl
@[simp] theorem State.setQueue_command_trace (ws : List Word) : (s.setQueue .command ws).trace = s.trace := rfl

@[simp] theorem State.setQueue_event_mod (ws : List Word) : (s.setQueue .event ws).mod = s.mod := rfl
@[simp] theorem State.setQueue_event_params (ws : List Word) : (s.setQueue .event ws).params = s.params := rfl
@[simp] theorem State.setQueue_event_txRegistered (ws : List Word) : (s.setQueue .event ws).txRegistered = s.txRegistered := rfl
@[simp] theorem State.setQueue_event_cmdIn (ws : List Word) : (s.setQueue .event ws).cmdIn = s.cmdIn := rfl
@[simp] theorem State.setQueue_event_evIn (ws : List Word) : (s.setQueue .event ws).evIn = ws := rfl
@[simp] theorem State.setQueue_event_answers (ws : List Word) : (s.setQueue .event ws).answers = s.answers := rfl
@[simp] theorem State.setQueue_event_draws (ws : List Word) : (s.setQueue .event ws).draws = s.draws := rfl
@[simp] theorem State.setQueue_event_trace (ws : List Word) : (s.setQueue .event ws).trace = s.trace := rfl

@[simp] theorem State.queue_command : s.queue .command = s.cmdIn := rfl
@[simp] theorem State.queue_event : s.queue .event = s.evIn := rfl

end

end Sys2Proof.Machine
end

