-- ==== Sys2Proof/Laws/Ops.lean ====
section
/-! SUPPORT. One lemma per shared operation of Machine/Ops.lean that says everything it can do; later proofs cite these and
unfold none of the operations. -/

namespace Sys2Proof.Machine

/-! ### Rows -/

/-- A row reads as written, and the others as before; beyond the physical table nothing is written. -/
theorem ModuleState.rxRow_setRxRow (m : ModuleState) (i j : Nat) (r : RxSlot) :
    (m.setRxRow i r).rxRow j = if i = j ∧ i < m.rx.length then r else m.rxRow j := by
  simp only [rxRow, setRxRow_rx, List.getD_eq_getElem?_getD, List.getElem?_set]
  by_cases h : i = j
  · subst h
    by_cases hl : i < m.rx.length <;> simp [hl]
  · simp [h]

/-- A row reads as written, and the others as before; beyond the physical table nothing is written. -/
theorem ModuleState.txRow_setTxRow (m : ModuleState) (i j : Nat) (r : TxSlot) :
    (m.setTxRow i r).txRow j = if i = j ∧ i < m.tx.length then r else m.txRow j := by
  simp only [txRow, setTxRow_tx, List.getD_eq_getElem?_getD, List.getElem?_set]
  by_cases h : i = j
  · subst h
    by_cases hl : i < m.tx.length <;> simp [hl]
  · simp [h]

@[simp] theorem ModuleState.setRxRow_length (m : ModuleState) (i : Nat) (r : RxSlot) :
    (m.setRxRow i r).rx.length = m.rx.length := by simp

@[simp] theorem ModuleState.setTxRow_length (m : ModuleState) (i : Nat) (r : TxSlot) :
    (m.setTxRow i r).tx.length = m.tx.length := by simp

@[simp] theorem abortRows_length (m : ModuleState) : (abortRows m).length = m.tx.length := by
  simp only [abortRows, rowsInUse, List.length_append, List.length_map, List.length_take, List.length_drop]
  omega

/-! ### Results and checks -/

theorem ret_eq (c : Result) (s : State) : ret c s = .next (s.emit (.result c)) := rfl

theorem command_of_initialised {s : State} (h : s.mod.initialised = true) (body : Host.Outcome State Fault Refusal) :
    command s body = body := by simp [command, h]

theorem command_of_uninitialised {s : State} (h : s.mod.initialised = false) (body : Host.Outcome State Fault Refusal) :
    command s body = ret .illegalArgument s := by simp [command, h]

theorem event_of_initialised {s : State} (h : s.mod.initialised = true) (body : Host.Outcome State Fault Refusal) :
    event s body = body := by simp [event, h]

theorem event_of_uninitialised {s : State} (h : s.mod.initialised = false) (body : Host.Outcome State Fault Refusal) :
    event s body = .next s := by simp [event, h]

/-- A command with a transmit index does its body, or it returns `IllegalArgument` with no effect. -/
theorem txCommand_cases (idx : SlotIndex) (s : State) (body : Host.Outcome State Fault Refusal) :
    (s.mod.initialised = true ∧ idx.toNat < s.mod.txCap.toNat ∧ txCommand idx s body = body) ∨
      ((s.mod.initialised = false ∨ s.mod.txCap.toNat ≤ idx.toNat) ∧
        txCommand idx s body = ret .illegalArgument s) := by
  unfold txCommand command
  cases s.mod.initialised <;> by_cases h : idx.toNat < s.mod.txCap.toNat <;> simp [h]
  omega

/-- A situation is refused; without it the body is done. -/
theorem refuseIf_cases (b : Bool) (why : Refusal) (body : Host.Outcome State Fault Refusal) :
    (b = true ∧ refuseIf b why body = .refused why) ∨ (b = false ∧ refuseIf b why body = body) := by
  unfold refuseIf
  cases b <;> simp

@[simp] theorem refuseIf_true (why : Refusal) (body : Host.Outcome State Fault Refusal) :
    refuseIf true why body = .refused why := rfl

@[simp] theorem refuseIf_false (why : Refusal) (body : Host.Outcome State Fault Refusal) :
    refuseIf false why body = body := rfl

/-- A situation is refused, and only under the refuse policy; otherwise the body is done. -/
theorem refuseWhen_cases (s : State) (b : Bool) (why : Refusal) (body : Host.Outcome State Fault Refusal) :
    (s.params.usage = .refuse ∧ b = true ∧ refuseWhen s b why body = .refused why) ∨
      ((s.params.usage = .literal ∨ b = false) ∧ refuseWhen s b why body = body) := by
  unfold refuseWhen
  cases s.params.usage <;> cases b <;> simp [refuseIf]

theorem refuseWhen_literal {s : State} (h : s.params.usage = .literal) (b : Bool) (why : Refusal)
    (body : Host.Outcome State Fault Refusal) : refuseWhen s b why body = body := by simp [refuseWhen, h]

theorem refuseWhen_false (s : State) (why : Refusal) (body : Host.Outcome State Fault Refusal) :
    refuseWhen s false why body = body := by simp [refuseWhen]

/-! ### The result port -/

/-- An output adds its code to what the result port has carried, if it is a result. -/
theorem State.resultPort_emit (s : State) (o : Output) :
    (s.emit o).resultPort = s.resultPort ++ o.resultCode.toList := by
  cases h : o.resultCode <;> simp [resultPort, emit, List.filterMap_append, h]

/-- No code is above 4, and different results have different codes (R170). -/
theorem Result.code_le (c : Result) : c.code.toNat ≤ 4 := by cases c <;> decide

theorem Result.code_injective : Function.Injective Result.code := by
  intro a b h
  cases a <;> cases b <;> first | rfl | exact absurd h (by decide)

/-- Different conditions have different numbers (R184). -/
theorem Condition.number_injective : Function.Injective Condition.number := by
  intro a b h
  cases a <;> cases b <;> first | rfl | exact absurd h (by decide)

/-! ### The collaborator's answers -/

section
variable (s : State)

@[simp] theorem State.askEnable_mod : s.askEnable.mod = s.mod := by unfold askEnable; split <;> rfl
@[simp] theorem State.askEnable_params : s.askEnable.params = s.params := by unfold askEnable; split <;> rfl
@[simp] theorem State.askEnable_txRegistered : s.askEnable.txRegistered = s.txRegistered := by
  unfold askEnable; split <;> rfl
@[simp] theorem State.askEnable_cmdIn : s.askEnable.cmdIn = s.cmdIn := by unfold askEnable; split <;> rfl
@[simp] theorem State.askEnable_evIn : s.askEnable.evIn = s.evIn := by unfold askEnable; split <;> rfl
@[simp] theorem State.askEnable_trace : s.askEnable.trace = s.trace ++ [.htiEnable] := by
  unfold askEnable; split <;> rfl
/-- The answer given is used up. -/
@[simp] theorem State.askEnable_answers :
    s.askEnable.answers = { s.answers with enable := s.answers.enable.tail } := by
  unfold askEnable
  split
  · rename_i h
    have ht : s.answers.enable.tail = s.answers.enable := by rw [h]; rfl
    rw [ht]; rfl
  · rename_i h; simp [h]

@[simp] theorem State.askTxFree_mod : s.askTxFree.mod = s.mod := by unfold askTxFree; split <;> rfl
@[simp] theorem State.askTxFree_params : s.askTxFree.params = s.params := by unfold askTxFree; split <;> rfl
@[simp] theorem State.askTxFree_txRegistered : s.askTxFree.txRegistered = s.txRegistered := by
  unfold askTxFree; split <;> rfl
@[simp] theorem State.askTxFree_cmdIn : s.askTxFree.cmdIn = s.cmdIn := by unfold askTxFree; split <;> rfl
@[simp] theorem State.askTxFree_evIn : s.askTxFree.evIn = s.evIn := by unfold askTxFree; split <;> rfl
@[simp] theorem State.askTxFree_trace : s.askTxFree.trace = s.trace ++ [.htiTxFree] := by
  unfold askTxFree; split <;> rfl
/-- The answer given is used up. -/
@[simp] theorem State.askTxFree_answers :
    s.askTxFree.answers = { s.answers with txFree := s.answers.txFree.tail } := by
  unfold askTxFree
  split
  · rename_i h
    have ht : s.answers.txFree.tail = s.answers.txFree := by rw [h]; rfl
    rw [ht]; rfl
  · rename_i h; simp [h]

variable (f : Frame)

@[simp] theorem State.askWrite_mod : (s.askWrite f).mod = s.mod := by unfold askWrite; split <;> rfl
@[simp] theorem State.askWrite_params : (s.askWrite f).params = s.params := by unfold askWrite; split <;> rfl
@[simp] theorem State.askWrite_txRegistered : (s.askWrite f).txRegistered = s.txRegistered := by
  unfold askWrite; split <;> rfl
@[simp] theorem State.askWrite_cmdIn : (s.askWrite f).cmdIn = s.cmdIn := by unfold askWrite; split <;> rfl
@[simp] theorem State.askWrite_evIn : (s.askWrite f).evIn = s.evIn := by unfold askWrite; split <;> rfl
@[simp] theorem State.askWrite_trace : (s.askWrite f).trace = s.trace ++ [.htiWrite f] := by
  unfold askWrite; split <;> rfl
/-- The answer given is used up. -/
@[simp] theorem State.askWrite_answers :
    (s.askWrite f).answers = { s.answers with write := s.answers.write.tail } := by
  unfold askWrite
  split
  · rename_i h
    have ht : s.answers.write.tail = s.answers.write := by rw [h]; rfl
    rw [ht]; rfl
  · rename_i h; simp [h]

@[simp] theorem State.askErrors_mod : s.askErrors.mod = s.mod := by unfold askErrors; split <;> rfl
@[simp] theorem State.askErrors_params : s.askErrors.params = s.params := by unfold askErrors; split <;> rfl
@[simp] theorem State.askErrors_txRegistered : s.askErrors.txRegistered = s.txRegistered := by
  unfold askErrors; split <;> rfl
@[simp] theorem State.askErrors_cmdIn : s.askErrors.cmdIn = s.cmdIn := by unfold askErrors; split <;> rfl
@[simp] theorem State.askErrors_evIn : s.askErrors.evIn = s.evIn := by unfold askErrors; split <;> rfl
@[simp] theorem State.askErrors_trace : s.askErrors.trace = s.trace ++ [.htiErrors] := by
  unfold askErrors; split <;> rfl
/-- The answer given is used up. -/
@[simp] theorem State.askErrors_answers :
    s.askErrors.answers = { s.answers with errors := s.answers.errors.tail } := by
  unfold askErrors
  split
  · rename_i h
    have ht : s.answers.errors.tail = s.answers.errors := by rw [h]; rfl
    rw [ht]; rfl
  · rename_i h; simp [h]

end

/-! ### Parts of operations -/

section
variable (s : State)

@[simp] theorem State.cycleChannel_mod : s.cycleChannel.mod = s.mod := by simp [cycleChannel]
@[simp] theorem State.cycleChannel_params : s.cycleChannel.params = s.params := by simp [cycleChannel]
@[simp] theorem State.cycleChannel_txRegistered : s.cycleChannel.txRegistered = s.txRegistered := by
  simp [cycleChannel]
@[simp] theorem State.cycleChannel_cmdIn : s.cycleChannel.cmdIn = s.cmdIn := by simp [cycleChannel]
@[simp] theorem State.cycleChannel_evIn : s.cycleChannel.evIn = s.evIn := by simp [cycleChannel]
/-- `HTI.disable`, then `HTI.enable`, nothing else (R151, R157). -/
@[simp] theorem State.cycleChannel_trace : s.cycleChannel.trace = s.trace ++ [.htiDisable, .htiEnable] := by
  simp [cycleChannel]

/-- A dispatch sets `rxBusy` and calls the consumer, or (null callback) does nothing. -/
theorem State.dispatch_eq (r : RxSlot) :
    s.dispatch r = if r.cb = 0 then s
      else (s.withMod (s.mod.setRxBusy true)).emit (.cbInvoke r.cb r.ctx s.mod.rxBuf) := rfl

/-- Everything `enqueue` can do. -/
theorem enqueue_cases (i : Nat) :
    (s.mod.pendingTransmitCount = 0xFFFF ∧ enqueue i s = .refused .countAboveRange) ∨
      (s.mod.pendingTransmitCount ≠ 0xFFFF ∧ enqueue i s = .next ((s.withMod
        ((s.mod.setTxRow i { s.mod.txRow i with full := true }).setCount (s.mod.pendingTransmitCount + 1))).emit
          (.result .ok))) := by
  unfold enqueue
  by_cases h : s.mod.pendingTransmitCount = 0xFFFF
  · exact .inl ⟨h, if_pos h⟩
  · exact .inr ⟨h, if_neg h⟩

/-- Everything `dequeueWritten` can do. -/
theorem dequeueWritten_cases (i : Nat) :
    (s.mod.pendingTransmitCount = 0 ∧ dequeueWritten i s = .refused .countBelowZero) ∨
      (s.mod.pendingTransmitCount ≠ 0 ∧ ∃ t, dequeueWritten i s = .next t ∧
        t = ((s.withMod (((s.mod.setTxRow i { s.mod.txRow i with full := false }).setCount
          (s.mod.pendingTransmitCount - 1)).setSyncAbort (s.mod.txRow i).syncFlag)).emit (.result .ok))) := by
  unfold dequeueWritten
  by_cases h : s.mod.pendingTransmitCount = 0
  · exact .inl ⟨h, if_pos h⟩
  · exact .inr ⟨h, _, if_neg h, rfl⟩

/-- A failed INIT answers, leaves the block uninitialised and adds only its result code to the trace (R154). -/
theorem failedInit_spec (c : Result) :
    ∃ t, failedInit c s = .next t ∧ t.mod.initialised = false ∧ t.trace = s.trace ++ [.result c] ∧
      t.params = s.params ∧ t.cmdIn = s.cmdIn ∧ t.evIn = s.evIn ∧ t.answers = s.answers :=
  ⟨_, rfl, rfl, rfl, rfl, rfl, rfl, rfl⟩

/-- CHECKERR's treatment of a bitmap touches two registers and the trace. -/
theorem noteErrors_unchanged {e : Word} (h : e = s.mod.lastErrorBitmap) : noteErrors e s = s := by
  simp [noteErrors, h]

theorem noteErrors_changed {e : Word} (h : e ≠ s.mod.lastErrorBitmap) :
    noteErrors e s = (s.withMod ((s.mod.setLastErrors e).setPassive
      (passiveAfter s.mod.firstFrameSent s.mod.passiveActive e))).emitAll
        (errorCalls s.params.passiveClears s.mod.firstFrameSent s.mod.passiveActive e) := by
  simp [noteErrors, h]

end

/-! ### The scans -/

/-- The slot DRAIN takes: it is in use, it is full, and no slot below it is. -/
theorem firstFull_eq_some {m : ModuleState} {i : Nat} (h : firstFull m = some i) :
    i < m.txCap.toNat ∧ i < m.tx.length ∧ (m.txRow i).full = true ∧ ∀ j < i, (m.txRow j).full = false := by
  simp only [firstFull, rowsInUse, List.findIdx?_eq_some_iff_getElem] at h
  obtain ⟨hi, hf, hlt⟩ := h
  have hlen := hi
  rw [List.length_take] at hlen
  have hrow : ∀ j (_ : j < m.tx.length), m.txRow j = m.tx[j] := by
    intro j hj; simp [ModuleState.txRow, List.getD_eq_getElem?_getD, hj]
  refine ⟨by omega, by omega, ?_, fun j hj => ?_⟩
  · rw [hrow i (by omega)]; simpa using hf
  · rw [hrow j (by omega)]; simpa using hlt j hj

/-- The row RXFRAME takes: it is in use, it takes the frame, and no row below it does. -/
theorem firstMatch_eq_some {k : RxNullCb} {m : ModuleState} {e : Encoded} {i : Nat} (h : firstMatch k m e = some i) :
    i < m.rxCap.toNat ∧ i < m.rx.length ∧ rowTakes k e (m.rxRow i) = true ∧
      ∀ j < i, rowTakes k e (m.rxRow j) = false := by
  simp only [firstMatch, List.findIdx?_eq_some_iff_getElem] at h
  obtain ⟨hi, hf, hlt⟩ := h
  have hlen := hi
  rw [List.length_take] at hlen
  have hrow : ∀ j (_ : j < m.rx.length), m.rxRow j = m.rx[j] := by
    intro j hj; simp [ModuleState.rxRow, List.getD_eq_getElem?_getD, hj]
  refine ⟨by omega, by omega, ?_, fun j hj => ?_⟩
  · rw [hrow i (by omega)]; simpa using hf
  · rw [hrow j (by omega)]; simpa using hlt j hj

/-- ABORTSYNC row by row: the rows in use are treated, the others are not. -/
theorem abortRows_getElem? (m : ModuleState) (i : Nat) :
    (abortRows m)[i]? = if i < m.txCap.toNat then m.tx[i]?.map abortRow else m.tx[i]? := by
  simp only [abortRows, rowsInUse, List.getElem?_append, List.length_map, List.length_take, List.getElem?_map,
    List.getElem?_take, List.getElem?_drop]
  by_cases h : i < m.txCap.toNat <;> by_cases hl : i < m.tx.length
  · simp [h, hl]
  · simp [h, hl]; omega
  · have h' : min m.txCap.toNat m.tx.length ≤ i := by omega
    have : m.txCap.toNat + (i - min m.txCap.toNat m.tx.length) = i := by omega
    simp [h, this]
  · have : m.tx[i]? = none := by simp; omega
    simp [h, this]; omega

end Sys2Proof.Machine
end

