-- ==== Sys2Proof/Laws/PerInstr.lean ====
section
/-! SUPPORT. The family EncodeShape, one lemma per operation: the header an operation is encoded with carries its own
opcode's length, opcodes assigned to the port of the operation, and as many words as the length says (R71, R72, R85). -/

namespace Sys2Proof.Laws.EncodeShape

open Sys2Proof.Machine

/-- The header word an operation is encoded with. -/
def headerOf (i : Instr) : Word := (encode i).headD 0

/-- The encoding has the length R85 gives its header, the header's opcode is assigned, and it belongs to the port of the
operation (R72). -/
def Statement (i : Instr) : Prop :=
  (encode i).length = opLength (headerOf i) ∧ opcodeReserved (headerOf i) = false ∧ portOfHeader (headerOf i) = i.port

/-- The three facts follow from the opcode alone. -/
theorem of_opcode {i : Instr} (op : BitVec 4) (h : opcodeOf (headerOf i) = op)
    (hl : (encode i).length = (if op = 0x1 then 2 else if op = 0x4 then 4 else if op = 0x6 then 3 else if op = 0xC then 3 else 1))
    (hr : (op == 0x0 || op == 0xB || op == 0xF) = false)
    (hp : (if 0xC ≤ op.toNat then Port.event else Port.command) = i.port) : Statement i := by
  subst h
  exact ⟨hl, hr, hp⟩

theorem init (txs rxs : Bool) (rate txcap rxcap : BitVec 16) : Statement (.init txs rxs rate txcap rxcap) := by
  refine of_opcode 0x1 ?_ rfl rfl rfl
  apply BitVec.eq_of_getLsbD_eq
  intro i hi
  interval_cases i <;> simp [opcodeOf, headerOf, encode, bitWord, BitVec.getLsbD_of_ge]

theorem setnormal : Statement .setnormal := of_opcode 0x2 rfl rfl rfl rfl

theorem disable : Statement .disable := of_opcode 0x3 rfl rfl rfl rfl

theorem regrx (idx : SlotIndex) (rtr : Bool) (id mask : CanId) (ctx cb : Word) :
    Statement (.regrx idx rtr id mask ctx cb) := by
  refine of_opcode 0x4 ?_ rfl rfl rfl
  apply BitVec.eq_of_getLsbD_eq
  intro i hi
  interval_cases i <;> simp [opcodeOf, headerOf, encode, bitWord, BitVec.getLsbD_of_ge]

theorem regtx (sync : Bool) (idx : SlotIndex) (rtr : Bool) (dlc : BitVec 4) (id : CanId) :
    Statement (.regtx sync idx rtr dlc id) := by
  refine of_opcode 0x5 ?_ rfl rfl rfl
  apply BitVec.eq_of_getLsbD_eq
  intro i hi
  interval_cases i <;> simp [opcodeOf, headerOf, encode, bitWord, BitVec.getLsbD_of_ge]

theorem txdata (idx : SlotIndex) (data : Payload) : Statement (.txdata idx data) := by
  refine of_opcode 0x6 ?_ rfl rfl rfl
  apply BitVec.eq_of_getLsbD_eq
  intro i hi
  interval_cases i <;> simp [opcodeOf, headerOf, encode, BitVec.getLsbD_of_ge]

theorem send (idx : SlotIndex) : Statement (.send idx) := by
  refine of_opcode 0x7 ?_ rfl rfl rfl
  apply BitVec.eq_of_getLsbD_eq
  intro i hi
  interval_cases i <;> simp [opcodeOf, headerOf, encode, BitVec.getLsbD_of_ge]

theorem drain : Statement .drain := of_opcode 0x8 rfl rfl rfl rfl

theorem abortsync : Statement .abortsync := of_opcode 0x9 rfl rfl rfl rfl

theorem checkerr : Statement .checkerr := of_opcode 0xA rfl rfl rfl rfl

theorem rxframe (rtr : Bool) (dlc : BitVec 4) (id : CanId) (data : Payload) : Statement (.rxframe rtr dlc id data) := by
  refine of_opcode 0xC ?_ rfl rfl rfl
  apply BitVec.eq_of_getLsbD_eq
  intro i hi
  interval_cases i <;> simp [opcodeOf, headerOf, encode, bitWord, BitVec.getLsbD_of_ge]

theorem txconf : Statement .txconf := of_opcode 0xD rfl rfl rfl rfl

theorem cbret : Statement .cbret := of_opcode 0xE rfl rfl rfl rfl

end Sys2Proof.Laws.EncodeShape
end

