-- ==== Sys2Proof/Laws/Step.lean ====
section
/-! SUPPORT. What the decoder, the fetch and the step can do, said once each. -/

namespace Sys2Proof.Machine

/-- Decoding at a port gives what decoding gives, where the operation belongs to the port. -/
theorem decodeAt_ok {p : Port} {ws : List Word} {i : Instr} {rest : List Word} :
    decodeAt p ws = .ok (i, rest) ↔ decode ws = .ok (i, rest) ∧ i.port = p := by
  unfold decodeAt
  cases decode ws with
  | error e => simp
  | ok r =>
    obtain ⟨j, l⟩ := r
    by_cases h : j.port = p
    · simp only [Request.wellFormed, h, decide_true, if_true, Except.ok.injEq, Prod.mk.injEq]
      constructor
      · rintro ⟨rfl, rfl⟩; exact ⟨⟨rfl, rfl⟩, h⟩
      · rintro ⟨h', _⟩; exact h'
    · simp only [Request.wellFormed, h, decide_false, Except.ok.injEq, Prod.mk.injEq]
      constructor
      · intro hc; simp at hc
      · rintro ⟨⟨rfl, rfl⟩, h'⟩; exact absurd h' h

/-- Everything a fetch from one port can do. -/
theorem fetchFrom_cases (p : Port) (s : State) :
    (∃ i rest, decodeAt p (s.queue p) = .ok (i, rest) ∧ fetchFrom p s = .op i (s.setQueue p rest)) ∨
      (∃ e, decodeAt p (s.queue p) = .error e ∧
        fetchFrom p s = .illegal p (s.setQueue p (wordsAfter (s.queue p)))) := by
  unfold fetchFrom
  cases h : decodeAt p (s.queue p) with
  | ok r => exact .inl ⟨r.1, r.2, rfl, rfl⟩
  | error e => exact .inr ⟨e, rfl, rfl⟩

/-- Everything a fetch can do: nothing, or a fetch from one ready port, after a draw when both are ready. -/
theorem fetch_cases (s : State) :
    (readyWords s.cmdIn = false ∧ readyWords s.evIn = false ∧ fetch s = .idle) ∨
      (readyWords s.cmdIn = true ∧ readyWords s.evIn = false ∧ fetch s = fetchFrom .command s) ∨
      (readyWords s.cmdIn = false ∧ readyWords s.evIn = true ∧ fetch s = fetchFrom .event s) ∨
      (readyWords s.cmdIn = true ∧ readyWords s.evIn = true ∧
        (fetch s = fetchFrom .event s.draw ∨ fetch s = fetchFrom .command s.draw)) := by
  unfold fetch
  cases readyWords s.cmdIn <;> cases readyWords s.evIn <;> simp
  cases Config.eventFirst s.draws <;> simp

/-- Everything a step can do: stay idle, run a decoded operation of a port, or answer an illegal one. -/
theorem step_cases (s : State) :
    step s = .next s ∨
      (∃ p u i rest, (u = s ∨ u = s.draw) ∧ decodeAt p (s.queue p) = .ok (i, rest) ∧
        step s = exec i (u.setQueue p rest)) ∨
      (∃ p u e, (u = s ∨ u = s.draw) ∧ decodeAt p (s.queue p) = .error e ∧
        step s = illegalOperation p (u.setQueue p (wordsAfter (s.queue p)))) := by
  have hq : ∀ p, s.draw.queue p = s.queue p := fun p => by cases p <;> rfl
  have key : ∀ p u, (u = s ∨ u = s.draw) → fetch s = fetchFrom p u →
      (∃ p u i rest, (u = s ∨ u = s.draw) ∧ decodeAt p (s.queue p) = .ok (i, rest) ∧
        step s = exec i (u.setQueue p rest)) ∨
      (∃ p u e, (u = s ∨ u = s.draw) ∧ decodeAt p (s.queue p) = .error e ∧
        step s = illegalOperation p (u.setQueue p (wordsAfter (s.queue p)))) := by
    intro p u hu hf
    have huq : u.queue p = s.queue p := by rcases hu with rfl | rfl; exacts [rfl, hq p]
    rcases fetchFrom_cases p u with ⟨i, rest, hd, he⟩ | ⟨e, hd, he⟩
    · exact .inl ⟨p, u, i, rest, hu, huq ▸ hd, by rw [step, hf, he]⟩
    · exact .inr ⟨p, u, e, hu, huq ▸ hd, by rw [step, hf, he, huq]⟩
  rcases fetch_cases s with ⟨_, _, h⟩ | ⟨_, _, h⟩ | ⟨_, _, h⟩ | ⟨_, _, h | h⟩
  · exact .inl (by rw [step, h])
  · exact .inr (key _ _ (.inl rfl) h)
  · exact .inr (key _ _ (.inl rfl) h)
  · exact .inr (key _ _ (.inr rfl) h)
  · exact .inr (key _ _ (.inr rfl) h)

end Sys2Proof.Machine
end

