-- ==== Sys2Proof/Tests/Slice0.lean ====
section
/-! SUPPORT. Tests of single operations against the vectors of spec/95_test_vectors.md (named in each docstring), written out
there by hand from the rules, and a witness for the hypotheses of each obligation. -/

namespace Sys2Proof.Tests

open Sys2Proof Sys2Proof.Machine

/-! ### Helper states -/

/-- After INIT 250, 4, 4, with nothing at any port. -/
def base : State := { State.reset with mod := State.reset.mod.afterInit Params.default .r250 4 4 }

/-- A state under the literal policy. -/
def lax (s : State) : State := { s with params := { s.params with usage := .literal } }

/-- The state after an operation; the same state where it does not go on. -/
def after (i : Instr) (s : State) : State :=
  match exec i s with
  | .next t => t
  | .fault _ => s
  | .refused _ => s

/-- The state after a step; the same state where it does not go on. -/
def stepped (s : State) : State :=
  match step s with
  | .next t => t
  | .fault _ => s
  | .refused _ => s

/-- With the answers HTI will give. -/
def answering (s : State) (enable txFree write : List Bool) (errors : List Word) : State :=
  { s with answers := ⟨enable, txFree, write, errors⟩ }

/-- With transmit row `i` as given and registered. -/
def withTx (s : State) (i : Nat) (r : TxSlot) : State :=
  { s with mod := s.mod.setTxRow i r, txRegistered := BitVec.ofNat 8 i :: s.txRegistered }

/-- With receive row `i` as given. -/
def withRx (s : State) (i : Nat) (r : RxSlot) : State := { s with mod := s.mod.setRxRow i r }

/-- With the three registers the transmit vectors name: `cnt`, `ffs`, `sap`. -/
def withFlags (s : State) (cnt : BitVec 16) (ffs sap : Bool) : State :=
  { s with mod := { s.mod with pendingTransmitCount := cnt, firstFrameSent := ffs, syncAbortPending := sap } }

/-- The payload 11 22 00 .. of the vectors. -/
def payload1122 : Payload := #v[0x11, 0x22, 0, 0, 0, 0, 0, 0]

/-- The row of V-TX-1, queued or not. -/
def row3 (full : Bool) : TxSlot := ⟨0x0604, 2, payload1122, full, true⟩

/-- V-TX-4's start: row 3 registered and loaded, nothing queued. -/
def sendStart : State := withTx base 3 (row3 false)

/-- V-TX-7's start, with `ffs` as given: row 3 queued. -/
def fullStart (ffs : Bool) : State := withFlags (withTx base 3 (row3 true)) 1 ffs false

/-- V-TX-11's start: rows 1 and 3 queued, row 2 registered, `cnt` 2, `ffs` 1. -/
def drainStart : State :=
  withFlags (withTx (withTx (withTx base 1 ⟨0x0A04, 1, zeroPayload, true, false⟩) 2 TxSlot.zero) 3 (row3 true)) 2 true false

/-- V-TX-15's start: rows 0, 1, 2 queued, sync flags 1, 0, 1, `cnt` 3, with `sap` as given. -/
def abortStart (sap : Bool) : State :=
  withFlags (withTx (withTx (withTx base 0 ⟨0x0604, 1, zeroPayload, true, true⟩) 1 ⟨0x0608, 1, zeroPayload, true, false⟩) 2
    ⟨0x060C, 1, zeroPayload, true, true⟩) 3 true sap

/-- The row of V-RX-1. -/
def rx181 : RxSlot := ⟨0x0604, 0x1FFC, 0x1000, 0x2000⟩

/-- V-RX-6's start: one receive row in use, that of V-RX-1. -/
def oneRow : State := withRx { base with mod := { base.mod with rxCap := 1 } } 0 rx181

/-! ### Well-formedness -/

/-- R84: a command at the event port and an event at the command port are not well formed; at their own ports they are. -/
theorem test_wellformed_port :
    Request.wellFormed ⟨.event, .drain⟩ = false ∧ Request.wellFormed ⟨.command, .txconf⟩ = false ∧
    Request.wellFormed ⟨.command, .drain⟩ = true ∧ Request.wellFormed ⟨.event, .txconf⟩ = true := by decide

/-- R84: one event makes a command program ill formed. -/
theorem test_wellformed_program :
    programWellFormed .command [.drain, .cbret, .send 1] = false ∧
    programWellFormed .command (sendd 1 payload1122) = true := by decide

/-! ### Decoding: a word written out from the spec for every operation (95_test_vectors.md section 2.2) -/

/-- V-ENC-1. -/
theorem test_decode_init : decode [0x100300FA, 0x00040004] = .ok (.init true true 250 4 4, []) := rfl
/-- V-ENC-3: rxcap 2 is W1[15:0], txcap 4 is W1[31:16]. -/
theorem test_decode_init_caps : decode [0x100301F4, 0x00040002] = .ok (.init true true 500 4 2, []) := rfl
/-- V-ENC-4: `norx` clears bit 16. -/
theorem test_decode_init_norx : decode [0x1002007D, 0x00040004] = .ok (.init true false 125 4 4, []) := rfl
/-- V-ENC-5. -/
theorem test_decode_setnormal : decode [0x20000000] = .ok (.setnormal, []) := rfl
/-- V-ENC-6. -/
theorem test_decode_disable : decode [0x30000000] = .ok (.disable, []) := rfl
/-- V-ENC-8. -/
theorem test_decode_regrx : decode [0x40010200, 0x00000700, 0x00001100, 0x00002100] =
    .ok (.regrx 1 false 0x200 0x700 0x1100 0x2100, []) := rfl
/-- V-ENC-9. -/
theorem test_decode_regrx_ones : decode [0x40FF87FF, 0x000007FF, 0xFFFFFFFF, 0xFFFFFFFF] =
    .ok (.regrx 255 true 0x7FF 0x7FF 0xFFFFFFFF 0xFFFFFFFF, []) := rfl
/-- V-ENC-10. -/
theorem test_decode_regtx : decode [0x51031181] = .ok (.regtx true 3 false 2 0x181, []) := rfl
/-- V-ENC-11. -/
theorem test_decode_regtx_ones : decode [0x51FFC7FF] = .ok (.regtx true 255 true 8 0x7FF, []) := rfl
/-- V-ENC-14: byte 0 is W1[7:0]. -/
theorem test_decode_txdata : decode [0x60010000, 0x04030201, 0x08070605] =
    .ok (.txdata 1 #v[1, 2, 3, 4, 5, 6, 7, 8], []) := rfl
/-- V-ENC-15, with a word after it. -/
theorem test_decode_send : decode [0x70030000, 0x80000000] = .ok (.send 3, [0x80000000]) := rfl
/-- V-ENC-16. -/
theorem test_decode_drain : decode [0x80000000] = .ok (.drain, []) := rfl
/-- V-ENC-17. -/
theorem test_decode_abortsync : decode [0x90000000] = .ok (.abortsync, []) := rfl
/-- V-ENC-18. -/
theorem test_decode_checkerr : decode [0xA0000000] = .ok (.checkerr, []) := rfl
/-- V-ENC-20. -/
theorem test_decode_rxframe : decode [0xC000C7FF, 0x04030201, 0x08070605] =
    .ok (.rxframe true 8 0x7FF #v[1, 2, 3, 4, 5, 6, 7, 8], []) := rfl
/-- V-ENC-21. -/
theorem test_decode_txconf : decode [0xD0000000] = .ok (.txconf, []) := rfl
/-- V-ENC-22. -/
theorem test_decode_cbret : decode [0xE0000000] = .ok (.cbret, []) := rfl

/-- V-ENC-2, 7, 12, 13, 19, the other way: the encoder writes the words of the table. -/
theorem test_encode :
    encode (.init true true 1000 1 1) = [0x100303E8, 0x00010001] ∧
    encode (.regrx 0 false 0x181 0x7FF 0x1000 0x2000) = [0x40000181, 0x000007FF, 0x00001000, 0x00002000] ∧
    encode (.regtx false 0 false 0 0) = [0x50000000] ∧
    encode (.txdata 3 payload1122) = [0x60030000, 0x00002211, 0x00000000] ∧
    encode (.rxframe false 2 0x181 payload1122) = [0xC0001181, 0x00002211, 0x00000000] := by decide

/-- R88: SENDD's words are TXDATA's and SEND's. -/
theorem test_sendd_words : encodeProgram (sendd 3 payload1122) = [0x60030000, 0x00002211, 0, 0x70030000] := by decide

/-! ### Illegal encodings (section 2.3) -/

/-- V-ILL-1, V-ILL-2, V-ILL-3. -/
theorem test_illegal_opcodes :
    decode [0x00000000] = .error .reservedOpcode ∧ decode [0xFFFFFFFF] = .error .reservedOpcode ∧
    decode [0xB0000000] = .error .reservedOpcode := ⟨rfl, rfl, rfl⟩

/-- V-ILL-4, V-ILL-5, V-ILL-11, V-ILL-10. -/
theorem test_illegal_reserved_bits :
    decode [0x20000001] = .error .reservedBits ∧ decode [0x70030001] = .error .reservedBits ∧
    decode [0x12030000, 0x00040004] = .error .reservedBits ∧ decode [0xC1001181, 0, 0] = .error .reservedBits :=
  ⟨rfl, rfl, rfl, rfl⟩

/-- V-ILL-6, V-ILL-7: reserved bits of REGRX's W0 and W1. -/
theorem test_illegal_regrx :
    decode [0x40007981, 0x000007FF, 0x00001000, 0x00002000] = .error .reservedBits ∧
    decode [0x40000181, 0x00000800, 0x00001000, 0x00002000] = .error .reservedBits := ⟨rfl, rfl⟩

/-- V-ILL-6: the four words are consumed and the result is `IllegalArgument`. -/
theorem test_illegal_step :
    (stepped { base with cmdIn := [0x40007981, 0x000007FF, 0x00001000, 0x00002000, 0x80000000] }).cmdIn = [0x80000000] ∧
    (stepped { base with cmdIn := [0x40007981, 0x000007FF, 0x00001000, 0x00002000, 0x80000000] }).trace =
      [.result .illegalArgument] := by decide

/-- V-ILL-10: the three words are consumed and nothing else happens. -/
theorem test_illegal_event :
    (stepped { base with evIn := [0xC1001181, 0, 0] }).evIn = [] ∧
    (stepped { base with evIn := [0xC1001181, 0, 0] }).trace = [] ∧
    (stepped { base with evIn := [0xC1001181, 0, 0] }).mod.rxBuf = Frame.zero := by decide

/-- V-ILL-8, V-ILL-9: wrong ports. -/
theorem test_wrong_port :
    (stepped { base with cmdIn := [0xD0000000] }).trace = [.result .illegalArgument] ∧
    (stepped { base with cmdIn := [0xD0000000] }).mod.firstFrameSent = false ∧
    (stepped { drainStart with evIn := [0x80000000] }).trace = [] := by decide

/-! ### The step and the host's two entry points -/

/-- A whole RXFRAME at the event port is taken while the command port holds only part of a TXDATA. -/
theorem test_step_waits_for_operands :
    (stepped { oneRow with cmdIn := [0x60000000, 0], evIn := [0xC0001181, 0x00002211, 0] }).trace =
      [.cbInvoke 0x2000 0x1000 ⟨0x181, false, 2, payload1122⟩] ∧
    (stepped { oneRow with cmdIn := [0x60000000, 0], evIn := [0xC0001181, 0x00002211, 0] }).cmdIn = [0x60000000, 0] := by
  decide

/-- The table's words of REGRX (128 bits) and of an operation whose operand words are zero. -/
theorem test_decode_table_word :
    decodeTableWord 128 0x00002000000010000000070040010200 = some (.regrx 1 false 0x200 0x700 0x1000 0x2000) ∧
    decodeTableWord 32 0xC0001181 = some (.rxframe false 2 0x181 zeroPayload) ∧ decodeTableWord 32 0 = none := by decide

/-- The placed operation is the one the next step runs, at either port. -/
theorem test_with_fetch_word :
    fetch (State.reset.withFetchWord 32 0x80000000) = .op .drain State.reset ∧
    fetch (State.reset.withFetchWord 32 0xD0000000) = .op .txconf State.reset ∧
    fetch (State.reset.withFetchWord 64 0x00040004100300FA) = .op (.init true true 250 4 4) State.reset := ⟨rfl, rfl, rfl⟩

/-! ### Numbers -/

/-- R170: the codes of the result port; R184: the numbers of the conditions. -/
theorem test_numbers :
    [Result.ok, .illegalArgument, .illegalBaudRate, .hardwareFailure, .transmitOverflow].map Result.code = [0, 1, 2, 3, 4] ∧
    [Condition.busOff, .busWarning, .busPassive, .receiveOverflow, .transmitOverflow, .syncWindowMissed].map
      Condition.number = [0, 1, 2, 3, 4, 5] ∧
    (after (.send 3) (fullStart false)).resultPort = [4] := by decide

/-! ### Identifier encoding (section 2.1) -/

/-- V-ID-1, 2, 4, 9. -/
theorem test_encId :
    encId 0x181 false = 0x0604 ∧ encId 0x181 true = 0x0606 ∧ encId 0x7FF true = 0x1FFE ∧
    decId 0x0606 = 0x181 ∧ decRtr 0x0606 = true := by decide

/-- V-ID-5, 6, 7, 8. -/
theorem test_encMask :
    encMask .fold 0x7FF false = 0x1FFC ∧ encMask .alwaysOne 0x7FF false = 0x1FFE ∧
    encMask .fold 0x700 true = 0x1C02 ∧ encMask .fold 0 false = 0 := by decide

/-! ### Lifecycle (section 2.4) -/

/-- V-LC-3. -/
theorem test_init :
    (after (.init true true 250 4 4) State.reset).trace = [.htiDisable, .htiEnable, .result .ok] ∧
    (after (.init true true 250 4 4) State.reset).mod.initialised = true ∧
    (after (.init true true 250 4 4) State.reset).mod.txCap = 4 := by decide

/-- V-LC-9, V-LC-12, V-LC-13. -/
theorem test_init_fails :
    (after (.init true true 800 4 4) base).trace = [.result .illegalBaudRate] ∧
    (after (.init false true 800 4 4) base).trace = [.result .illegalArgument] ∧
    (after (.init true true 250 4 9) base).trace = [.result .illegalArgument] ∧
    (after (.init true true 250 4 9) base).mod.initialised = false := by decide

/-- V-LC-18, V-LC-19. -/
theorem test_setnormal :
    (after .setnormal (answering base [true] [] [] [])).mod.normalModeActive = true ∧
    (after .setnormal (answering base [true] [] [] [])).trace = [.htiEnable, .result .ok] ∧
    (after .setnormal (answering { base with mod := base.mod.setNormal true } [false] [] [] [])).mod.normalModeActive
      = false ∧
    (after .setnormal (answering base [false] [] [] [])).trace = [.htiEnable, .result .hardwareFailure] := by decide

/-- V-LC-20. -/
theorem test_disable :
    (after .disable { base with mod := base.mod.setNormal true }).trace = [.htiDisable, .htiEnable, .result .ok] ∧
    (after .disable { base with mod := base.mod.setNormal true }).mod.normalModeActive = false := by decide

/-- V-LC-16, V-LC-17. -/
theorem test_uninitialised :
    (after (.send 0) State.reset).trace = [.result .illegalArgument] ∧
    (after .checkerr State.reset).trace = [.result .illegalArgument] ∧
    (after .txconf State.reset).mod.firstFrameSent = false := by decide

/-! ### Transmit (section 2.5) -/

/-- V-TX-1, V-TX-2. V-TX-22: re-registration keeps the payload. V-TX-23, literal: `full` 0, the count unchanged. -/
theorem test_regtx :
    (after (.regtx true 3 false 2 0x181) base).mod.txRow 3 = ⟨0x0604, 2, zeroPayload, false, true⟩ ∧
    (after (.regtx true 3 false 2 0x181) base).trace = [.result .ok] ∧
    (after (.regtx true 4 false 2 0x181) base).trace = [.result .illegalArgument] ∧
    (after (.regtx false 3 false 8 0x201) (lax (fullStart true))).mod.txRow 3 = ⟨0x0804, 8, payload1122, false, false⟩ ∧
    (after (.regtx false 3 false 8 0x201) (lax (fullStart true))).mod.pendingTransmitCount = 1 := by decide

/-- V-TX-3, V-TX-26. -/
theorem test_txdata :
    (after (.txdata 3 #v[0x11, 0x22, 0xEE, 0, 0, 0, 0, 0]) (fullStart true)).mod.txRow 3 =
      ⟨0x0604, 2, #v[0x11, 0x22, 0xEE, 0, 0, 0, 0, 0], true, true⟩ ∧
    (after (.txdata 200 payload1122) base).trace = [.result .illegalArgument] := by decide

/-- V-TX-4 and V-TX-6: the direct write. V-TX-5 and V-TX-9: queued. -/
theorem test_send_writes_or_queues :
    (after (.send 3) (answering sendStart [] [true] [true] [])).trace =
      [.htiTxFree, .htiWrite ⟨0x181, false, 2, payload1122⟩, .result .ok] ∧
    (after (.send 3) (answering sendStart [] [true] [true] [])).mod.syncAbortPending = true ∧
    (after (.send 3) (answering sendStart [] [true] [false] [])).trace =
      [.htiTxFree, .htiWrite ⟨0x181, false, 2, payload1122⟩, .result .hardwareFailure] ∧
    (after (.send 3) (answering sendStart [] [true] [false] [])).mod.pendingTransmitCount = 0 ∧
    (after (.send 3) (answering sendStart [] [false] [] [])).mod.txRow 3 = row3 true ∧
    (after (.send 3) (answering sendStart [] [false] [] [])).mod.pendingTransmitCount = 1 ∧
    (after (.send 2) (answering drainStart [] [true] [] [])).trace = [.htiTxFree, .result .ok] ∧
    (after (.send 2) (answering drainStart [] [true] [] [])).mod.pendingTransmitCount = 3 := by decide

/-- V-TX-7, V-TX-8: exactly one report, and none before the first confirmation. -/
theorem test_send_overflow :
    (after (.send 3) (fullStart true)).trace =
      [.emReport .transmitOverflow (Config.subcode .transmitOverflow) 0x00000604, .result .transmitOverflow] ∧
    (after (.send 3) (fullStart false)).trace = [.result .transmitOverflow] := ⟨rfl, rfl⟩

/-- V-TX-10, V-TX-13. -/
theorem test_drain_nothing :
    (after .drain (withFlags drainStart 2 false false)).trace = [.result .ok] ∧
    (after .drain (withFlags sendStart 0 true false)).trace = [.result .ok] := by decide

/-- V-TX-11, V-TX-12. -/
theorem test_drain :
    (after .drain (answering drainStart [] [] [true] [])).trace =
      [.htiWrite ⟨0x281, false, 1, zeroPayload⟩, .result .ok] ∧
    (after .drain (answering drainStart [] [] [true] [])).mod.tx.map (·.full) =
      [false, false, false, true, false, false, false, false] ∧
    (after .drain (answering drainStart [] [] [true] [])).mod.pendingTransmitCount = 1 ∧
    (after .drain (answering drainStart [] [] [false] [])).mod.pendingTransmitCount = 2 := by decide

/-- V-TX-15. -/
theorem test_abortsync :
    (after .abortsync (abortStart false)).mod.tx.map (·.full) = [false, true, false, false, false, false, false, false] ∧
    (after .abortsync (abortStart false)).mod.pendingTransmitCount = 1 := by decide

/-- V-TX-14, V-TX-15, V-TX-16, V-TX-17: the four codes. -/
theorem test_abortsync_code :
    (after .abortsync base).trace = [.result .ok] ∧
    (after .abortsync (abortStart false)).trace =
      [.emReport .syncWindowMissed (Config.subcode .syncWindowMissed) 2, .result .ok] ∧
    (after .abortsync (withFlags base 0 false true)).trace =
      [.emReport .syncWindowMissed (Config.subcode .syncWindowMissed) 1, .result .ok] ∧
    (after .abortsync (abortStart true)).trace =
      [.emReport .syncWindowMissed (Config.subcode .syncWindowMissed) 3, .result .ok] := ⟨rfl, rfl, rfl, rfl⟩

/-- V-TX-18. -/
theorem test_txconf :
    (after .txconf (withFlags base 0 false true)).mod.firstFrameSent = true ∧
    (after .txconf (withFlags base 0 false true)).mod.syncAbortPending = false ∧
    (after .txconf (withFlags base 0 false true)).trace = [] := by decide

/-- V-TX-23, V-TX-24, V-TX-25 and R130: the refusals. -/
theorem test_refusals :
    exec (.regtx false 3 false 2 0x181) (withTx base 3 (row3 true)) = .refused .registrationOfQueuedSlot ∧
    exec (.regtx false 0 false 9 0x181) base = .refused .dataLengthAboveEight ∧
    exec (.send 2) base = .refused .slotNotRegistered ∧
    exec (.rxframe false 0 0x181 zeroPayload) (lax { base with mod := base.mod.setRxBusy true }) =
      .refused .dispatchInFlight := ⟨rfl, rfl, rfl, rfl⟩

/-! ### Receive (section 2.6) -/

/-- V-RX-1. -/
theorem test_regrx :
    (after (.regrx 0 false 0x181 0x7FF 0x1000 0x2000) base).mod.rxRow 0 = rx181 ∧
    (after (.regrx 0 false 0x181 0x7FF 0x1000 0x2000) base).trace = [.htiSetFilter .standard 0 0, .result .ok] := by decide

/-- V-RX-2, V-RX-3, V-RX-4. -/
theorem test_regrx_fails :
    (after (.regrx 4 false 0x181 0x7FF 0x1000 0x2000) base).trace = [.result .illegalArgument] ∧
    (after (.regrx 0 false 0x181 0x7FF 0 0x2000) base).trace = [.result .illegalArgument] ∧
    (after (.regrx 0 false 0x181 0x7FF 0x1000 0) base).trace = [.result .illegalArgument] := by decide

/-- V-RX-5. -/
theorem test_rxframe :
    (after (.rxframe false 2 0x181 payload1122) oneRow).trace =
      [.cbInvoke 0x2000 0x1000 ⟨0x181, false, 2, payload1122⟩] ∧
    (after (.rxframe false 2 0x181 payload1122) oneRow).mod.rxBusy = true := by decide

/-- V-RX-6 and the two readings of a null row: below a registered row it swallows the frame or is passed over (R126). -/
theorem test_rxframe_drops :
    (after (.rxframe false 0 0x182 zeroPayload) oneRow).trace = [] ∧
    (after (.rxframe false 0 0x182 zeroPayload) oneRow).mod.rxBuf.id = 0x182 ∧
    (after (.rxframe false 0 0x181 zeroPayload) (withRx base 1 rx181)).trace = [] ∧
    (after (.rxframe false 0 0x181 zeroPayload)
      (withRx { base with params := { base.params with rxNullCb := .skip } } 1 rx181)).mod.rxBusy = true := by decide

/-- R131. -/
theorem test_cbret :
    (after .cbret { base with mod := base.mod.setRxBusy true }).mod.rxBusy = false ∧
    (after .cbret { base with mod := base.mod.setRxBusy true }).trace = [] := by decide

/-! ### Error monitor (section 2.7) -/

/-- V-EM-2, V-EM-1. -/
theorem test_checkerr :
    (after .checkerr (answering base [] [] [] [3])).trace =
      [.htiErrors, .emReset .busOff 3, .emReport .busWarning (Config.subcode .busWarning) 3, .result .ok] ∧
    (after .checkerr (answering base [] [] [] [0])).trace = [.htiErrors, .result .ok] := ⟨rfl, rfl⟩

/-- V-EM-7. -/
theorem test_checkerr_passive_recovery :
    (after .checkerr (answering
      { base with mod := { base.mod with firstFrameSent := true, passiveActive := true, lastErrorBitmap := 7 } }
      [] [] [] [1])).trace =
      [.htiErrors, .emReset .busOff 1, .emReport .busWarning (Config.subcode .busWarning) 1, .emReset .busPassive 1,
        .emReset .transmitOverflow 1, .result .ok] := rfl

/-! ### Witnesses: for each obligation with hypotheses, a state and operands that meet all of them together -/

theorem witness_DecodedWordsAreTheEncoding :
    decode [0x60010000, 0x04030201, 0x08070605, 0] = .ok (.txdata 1 #v[1, 2, 3, 4, 5, 6, 7, 8], [0]) := rfl

theorem witness_HeaderSelectsAtMostOneRow :
    rowInit ∈ encodingTable ∧ rowInit.selects 0x1003FFFF = true ∧
    rowCbret ∈ encodingTable ∧ rowCbret.selects 0xE0000000 = true := by decide

/-- A reserved opcode, a reserved bit of W0 and of REGRX's W1, at both ports. -/
theorem witness_IllegalEncodingHasNoEffect :
    (∃ e, decode [0x0FFFFFFF] = .error e) ∧ opcodeOf 0x0FFFFFFF = 0x0 ∧ opLength 0x0FFFFFFF = 1 ∧
    (∃ e, decode [0x40000181, 0x00000800, 0, 0] = .error e) ∧ opLength 0x40000181 = 4 ∧
    Claims.reservedBitSet 0x40000181 0x00000800 ∧ Claims.reservedBitSet 0x12000000 0 ∧
    (∃ e, decode [0xC0010000, 0, 0] = .error e) ∧ readyWords ([] : List Word) = false :=
  ⟨⟨_, rfl⟩, rfl, rfl, ⟨_, rfl⟩, rfl, by simp +decide [Claims.reservedBitSet], by simp +decide [Claims.reservedBitSet],
    ⟨_, rfl⟩, rfl⟩

theorem witness_WrongPortOperationIsIllegal :
    (Instr.drain.port = .command ∧ ({ base with evIn := [0x80000000] } : State).evIn = encode .drain ++ [] ∧
      readyWords ({ base with evIn := [0x80000000] } : State).cmdIn = false) ∧
    (Instr.txconf.port = .event ∧ ({ base with cmdIn := [0xD0000000] } : State).cmdIn = encode .txconf ++ [] ∧
      readyWords ({ base with cmdIn := [0xD0000000] } : State).evIn = false) := by decide

theorem witness_StepRunsDecodedCommand :
    decodeAt .command ({ base with cmdIn := [0x70030000, 0x80000000] } : State).cmdIn = .ok (.send 3, [0x80000000]) ∧
    readyWords ({ base with cmdIn := [0x70030000, 0x80000000] } : State).evIn = false := ⟨rfl, rfl⟩

theorem witness_StepRunsDecodedEvent :
    decodeAt .event ({ base with evIn := [0xE0000000] } : State).evIn = .ok (.cbret, []) ∧
    readyWords ({ base with evIn := [0xE0000000] } : State).cmdIn = false := ⟨rfl, rfl⟩

/-- Both legal; the command illegal; the event at the wrong port; both illegal, of several words. -/
theorem witness_StepTakesCommandOrEventWhenBothReady :
    (opLength 0x80000000 ≤ ([] : List Word).length + 1 ∧ opLength 0xD0000000 ≤ ([] : List Word).length + 1) ∧
    (∃ e, decodeAt .command [0x80000001] = .error e) ∧ opLength 0x80000001 ≤ ([] : List Word).length + 1 ∧
    decodeAt .event [0x60000000, 0, 0] = .error .wrongPort ∧ opLength 0x60000000 ≤ ([0, 0] : List Word).length + 1 ∧
    (∃ e, decodeAt .command [0x40007981, 0, 0, 0] = .error e) ∧ opLength 0x40007981 ≤ ([0, 0, 0] : List Word).length + 1 :=
  ⟨by decide, ⟨_, rfl⟩, by decide, rfl, by decide, ⟨_, rfl⟩, by decide⟩

theorem witness_StepIdlesWithoutWholeOperation :
    readyWords State.reset.cmdIn = false ∧ readyWords State.reset.evIn = false ∧
    readyWords ({ base with cmdIn := [0x40000000, 0, 0] } : State).cmdIn = false := by decide

theorem witness_SuppliedAnswersAreUsedInOrder :
    (answering base [true, false] [false] [true] [7, 8]).answers.enable = [true, false] ∧
    (answering base [true, false] [false] [true] [7, 8]).answers.txFree = [false] ∧
    (answering base [true, false] [false] [true] [7, 8]).answers.write = [true] ∧
    (answering base [true, false] [false] [true] [7, 8]).answers.errors = [7, 8] ∧
    base.answers.enable = [] ∧ base.answers.txFree = [] ∧ base.answers.write = [] ∧ base.answers.errors = [] := by decide

theorem witness_UninitialisedBlockDoesNothing :
    State.reset.mod.initialised = false ∧ Instr.drain.port = .command ∧ ¬ IsInit .drain ∧ Instr.cbret.port = .event :=
  ⟨rfl, rfl, by simp [IsInit], rfl⟩

/-- The boundary: an index equal to the capacity. -/
theorem witness_IndexBeyondCapacityFails :
    base.mod.rxCap.toNat ≤ (4 : SlotIndex).toNat ∧ base.mod.txCap.toNat ≤ (4 : SlotIndex).toNat := by decide

/-- The boundaries: a rate of the set, both capacities equal to the depths. -/
theorem witness_InitResetsEverything :
    ((10 : BitVec 16), Rate.r10) ∈ ([(1000, .r1000), (500, .r500), (250, .r250), (125, .r125), (100, .r100), (50, .r50),
      (20, .r20), (10, .r10)] : List (BitVec 16 × Rate)) ∧
    (8 : BitVec 16).toNat ≤ base.params.rxMax.val ∧ (8 : BitVec 16).toNat ≤ base.params.txMax.val := by decide

/-- The boundaries: a capacity one above the depth; capacities at the depths with an unknown rate. -/
theorem witness_FailedInitTouchesNoHardware :
    base.params.rxMax.val < (9 : BitVec 16).toNat ∧ base.params.txMax.val < (9 : BitVec 16).toNat ∧
    (8 : BitVec 16).toNat ≤ base.params.rxMax.val ∧ (8 : BitVec 16).toNat ≤ base.params.txMax.val ∧
    (1001 : BitVec 16) ∉ ([1000, 500, 250, 125, 100, 50, 20, 10] : List (BitVec 16)) := by decide

theorem witness_SetnormalFollowsEnableAnswer : base.mod.initialised = true ∧ State.reset.mod.initialised = false := by
  decide

theorem witness_DisableCyclesChannel : base.mod.initialised = true ∧ State.reset.mod.initialised = false := by decide

/-- The boundary: the last index in use. -/
theorem witness_RegrxWritesRowAndInstallsFilter :
    base.mod.initialised = true ∧ (3 : SlotIndex).toNat < base.mod.rxCap.toNat ∧ (0x1000 : Word) ≠ 0 ∧
    (0x2000 : Word) ≠ 0 ∧ base.mod.hardwareFilteringEnabled = false ∧ (3 : SlotIndex).toNat < base.mod.rx.length ∧
    (2 : Nat) ≠ (3 : SlotIndex).toNat := by decide

/-- A null context with all else legal, a null callback likewise, the index at the capacity, an uninitialised block. -/
theorem witness_RegrxRejectsBadArguments :
    base.mod.rxCap.toNat ≤ (4 : SlotIndex).toNat ∧ (0 : Word) = 0 ∧ State.reset.mod.initialised = false := by decide

theorem witness_RegrxWithHardwareFiltering :
    ({ base with mod := { base.mod with hardwareFilteringEnabled := true } } : State).mod.initialised = true ∧
    (3 : SlotIndex).toNat <
      ({ base with mod := { base.mod with hardwareFilteringEnabled := true } } : State).mod.rxCap.toNat ∧
    (0x1000 : Word) ≠ 0 ∧ (0x2000 : Word) ≠ 0 ∧
    ({ base with mod := { base.mod with hardwareFilteringEnabled := true } } : State).mod.hardwareFilteringEnabled = true := by
  decide

/-- Row 1 (a catch-all) takes the frame, row 0 does not. -/
theorem witness_RxframeInvokesLowestMatchingRow :
    (withRx (withRx base 0 rx181) 1 ⟨0, 0, 0x1200, 0x2200⟩).mod.initialised = true ∧
    (withRx (withRx base 0 rx181) 1 ⟨0, 0, 0x1200, 0x2200⟩).mod.rxBusy = false ∧
    1 < (withRx (withRx base 0 rx181) 1 ⟨0, 0, 0x1200, 0x2200⟩).mod.rxCap.toNat ∧
    1 < (withRx (withRx base 0 rx181) 1 ⟨0, 0, 0x1200, 0x2200⟩).mod.rx.length ∧
    Claims.takesFrame .matchAndDrop (encId 0x182 false)
      ((withRx (withRx base 0 rx181) 1 ⟨0, 0, 0x1200, 0x2200⟩).mod.rxRow 1) ∧
    (∀ j < 1, ¬ Claims.takesFrame .matchAndDrop (encId 0x182 false)
      ((withRx (withRx base 0 rx181) 1 ⟨0, 0, 0x1200, 0x2200⟩).mod.rxRow j)) ∧
    ((withRx (withRx base 0 rx181) 1 ⟨0, 0, 0x1200, 0x2200⟩).mod.rxRow 1).cb ≠ 0 := by
  refine ⟨rfl, rfl, by decide, by decide, ?_, ?_, by decide⟩ <;> unfold Claims.takesFrame <;> decide

/-- First alternative: no row of `oneRow` takes identifier 0x182. Second: row 0 of `base` is unregistered and takes all. -/
theorem witness_RxframeDropsUnmatchedFrame :
    (oneRow.mod.initialised = true ∧ oneRow.mod.rxBusy = false ∧
      ∀ j, j < oneRow.mod.rxCap.toNat → j < oneRow.mod.rx.length →
        ¬ Claims.takesFrame oneRow.params.rxNullCb (encId 0x182 false) (oneRow.mod.rxRow j)) ∧
    (base.mod.initialised = true ∧ base.mod.rxBusy = false ∧
      ∃ i, i < base.mod.rxCap.toNat ∧ i < base.mod.rx.length ∧ (base.mod.rxRow i).cb = 0 ∧
        Claims.takesFrame base.params.rxNullCb (encId 0x182 false) (base.mod.rxRow i) ∧
        ∀ j < i, ¬ Claims.takesFrame base.params.rxNullCb (encId 0x182 false) (base.mod.rxRow j)) := by
  refine ⟨⟨rfl, rfl, ?_⟩, rfl, rfl, 0, by decide, by decide, by decide, ?_, by omega⟩
  · intro j hj _
    obtain rfl : j = 0 := by
      have h : oneRow.mod.rxCap.toNat = 1 := rfl
      omega
    unfold Claims.takesFrame; decide
  · unfold Claims.takesFrame; decide

theorem witness_RxframeDuringDispatchIsRefused :
    ({ base with mod := base.mod.setRxBusy true } : State).mod.initialised = true ∧
    ({ base with mod := base.mod.setRxBusy true } : State).mod.rxBusy = true := by decide

theorem witness_CbretClearsBusy : base.mod.initialised = true ∧ State.reset.mod.initialised = false := by decide

theorem witness_NullRowReadingsAgreeWithoutGaps :
    NoGaps oneRow.mod ∧
    (∃ t, exec (.rxframe false 2 0x181 payload1122)
      { oneRow with params := { oneRow.params with rxNullCb := .matchAndDrop } } = .next t) ∧
    (∃ u, exec (.rxframe false 2 0x181 payload1122)
      { oneRow with params := { oneRow.params with rxNullCb := .skip } } = .next u) := by
  refine ⟨?_, ⟨_, rfl⟩, ⟨_, rfl⟩⟩
  intro i j hij hj _
  have h : oneRow.mod.rxCap.toNat = 1 := rfl
  omega

/-- A registration that proceeds under the refuse policy, and one that only the literal policy lets proceed. -/
theorem witness_RegtxWritesRegistration :
    (base.mod.initialised = true ∧ (3 : SlotIndex).toNat < base.mod.txCap.toNat ∧
      Proceeds base ((base.mod.txRow 3).full = true ∨ 8 < (8 : BitVec 4).toNat) ∧
      (3 : SlotIndex).toNat < base.mod.tx.length) ∧
    ((lax (fullStart true)).mod.initialised = true ∧ (3 : SlotIndex).toNat < (lax (fullStart true)).mod.txCap.toNat ∧
      Proceeds (lax (fullStart true)) (((lax (fullStart true)).mod.txRow 3).full = true ∨ 8 < (9 : BitVec 4).toNat)) :=
  ⟨⟨rfl, by decide, .inr (by decide), by decide⟩, rfl, by decide, .inl rfl⟩

/-- A queued slot; a slot that is not queued with length 9. -/
theorem witness_RegtxMisuseIsRefused :
    (withTx base 3 (row3 true)).mod.initialised = true ∧
    (3 : SlotIndex).toNat < (withTx base 3 (row3 true)).mod.txCap.toNat ∧
    (withTx base 3 (row3 true)).params.usage = .refuse ∧ ((withTx base 3 (row3 true)).mod.txRow 3).full = true ∧
    base.mod.initialised = true ∧ (base.mod.txRow 3).full = false ∧ 8 < (9 : BitVec 4).toNat := by decide

theorem witness_TxdataWritesPayload :
    base.mod.initialised = true ∧ (3 : SlotIndex).toNat < base.mod.txCap.toNat ∧
    (3 : SlotIndex).toNat < base.mod.tx.length ∧ base.mod.txCap.toNat ≤ (4 : SlotIndex).toNat ∧
    State.reset.mod.initialised = false := by decide

theorem witness_SendOnFullSlotOverflows :
    (fullStart true).mod.initialised = true ∧ (3 : SlotIndex).toNat < (fullStart true).mod.txCap.toNat ∧
    Proceeds (fullStart true) ((3 : SlotIndex) ∉ (fullStart true).txRegistered) ∧
    ((fullStart true).mod.txRow 3).full = true := ⟨rfl, by decide, .inr (by decide), rfl⟩

/-- With either answer of `HTI.write`. -/
theorem witness_SendWritesAtOnceWhenNothingPending :
    ∀ w : Bool,
      (answering sendStart [] [true] [w] []).mod.initialised = true ∧
      (3 : SlotIndex).toNat < (answering sendStart [] [true] [w] []).mod.txCap.toNat ∧
      Proceeds (answering sendStart [] [true] [w] [])
        ((3 : SlotIndex) ∉ (answering sendStart [] [true] [w] []).txRegistered) ∧
      ((answering sendStart [] [true] [w] []).mod.txRow 3).full = false ∧
      (answering sendStart [] [true] [w] []).txFreeAnswer = true ∧
      (answering sendStart [] [true] [w] []).mod.pendingTransmitCount = 0 ∧
      (answering sendStart [] [true] [w] []).askTxFree.writeAnswer = w :=
  fun _ => ⟨rfl, show 3 < 4 by decide, .inr (fun h => h (List.mem_cons_self ..)), rfl, rfl, rfl, rfl⟩

/-- No free mailbox; a pending frame with a free mailbox; the count at its top. -/
theorem witness_SendQueuesOtherwise :
    sendStart.mod.initialised = true ∧ (3 : SlotIndex).toNat < sendStart.mod.txCap.toNat ∧
    Proceeds sendStart ((3 : SlotIndex) ∉ sendStart.txRegistered) ∧ (sendStart.mod.txRow 3).full = false ∧
    (answering sendStart [] [false] [] []).txFreeAnswer = false ∧ sendStart.mod.pendingTransmitCount ≠ 0xFFFF ∧
    (∀ n : BitVec 16, (withFlags sendStart n true false).mod.pendingTransmitCount = n ∧
      ((withFlags sendStart n true false).mod.txRow 3).full = false) :=
  ⟨rfl, show 3 < 4 by decide, .inr (by decide), rfl, rfl, by decide, fun _ => ⟨rfl, rfl⟩⟩

theorem witness_SendOfUnregisteredSlotIsRefused :
    base.mod.initialised = true ∧ (3 : SlotIndex).toNat < base.mod.txCap.toNat ∧ base.params.usage = .refuse ∧
    (3 : SlotIndex) ∉ base.txRegistered := by decide

theorem witness_DrainWaitsForFirstConfirmation :
    (fullStart false).mod.initialised = true ∧ (fullStart false).mod.firstFrameSent = false := by decide

/-- Row 1 is the lowest full one, with each answer of `HTI.write`, and with the count at 0; a table with no full row. -/
theorem witness_DrainSendsLowestFullSlot :
    (∀ w : Bool, (answering drainStart [] [] [w] []).writeAnswer = w) ∧
    drainStart.mod.initialised = true ∧ drainStart.mod.firstFrameSent = true ∧ 1 < drainStart.mod.txCap.toNat ∧
    1 < drainStart.mod.tx.length ∧ (drainStart.mod.txRow 1).full = true ∧
    (∀ j < 1, (drainStart.mod.txRow j).full = false) ∧ drainStart.mod.pendingTransmitCount ≠ 0 ∧
    (withFlags drainStart 0 true false).mod.pendingTransmitCount = 0 ∧
    (withFlags base 0 true false).mod.firstFrameSent = true ∧
    (∀ j < 8, ((withFlags base 0 true false).mod.txRow j).full = false) := by decide

theorem witness_AbortsyncClearsQueuedSyncSlots :
    (abortStart true).mod.initialised = true ∧
    2 = ((abortStart true).mod.tx.take (abortStart true).mod.txCap.toNat).countP (fun r => r.full && r.syncFlag) ∧
    2 ≤ (abortStart true).mod.pendingTransmitCount.toNat ∧
    0 = (base.mod.tx.take base.mod.txCap.toNat).countP (fun r => r.full && r.syncFlag) ∧
    0 ≤ base.mod.pendingTransmitCount.toNat := by decide

theorem witness_TxconfConfirmsFirstFrame : base.mod.initialised = true ∧ State.reset.mod.initialised = false := by decide

theorem witness_SendNeverWritesAndQueues :
    exec (.send 3) (answering sendStart [] [false] [] []) = .next (after (.send 3) (answering sendStart [] [false] [] [])) ∧
    ((answering sendStart [] [false] [] []).mod.txRow 3).full = false ∧
    ((after (.send 3) (answering sendStart [] [false] [] [])).mod.txRow 3).full = true := ⟨rfl, rfl, rfl⟩

/-- A changed bitmap, an unchanged one, an uninitialised block. -/
theorem witness_CheckerrFollowsBitmapChanges :
    (answering base [] [] [] [3]).mod.initialised = true ∧ (answering base [] [] [] [3]).errorsAnswer = 3 ∧
    3 ≠ (answering base [] [] [] [3]).mod.lastErrorBitmap ∧
    (answering base [] [] [] [0]).errorsAnswer = (answering base [] [] [] [0]).mod.lastErrorBitmap ∧
    State.reset.mod.initialised = false := by decide

theorem witness_SecondCheckerrWithSameSampleIsSilent :
    (answering base [] [] [] [3, 3]).mod.initialised = true ∧
    exec .checkerr (answering base [] [] [] [3, 3]) = .next (after .checkerr (answering base [] [] [] [3, 3])) ∧
    (after .checkerr (answering base [] [] [] [3, 3])).errorsAnswer = (answering base [] [] [] [3, 3]).errorsAnswer :=
  ⟨rfl, rfl, rfl⟩

/-- For the statements over all operations: a command and an event that go on. -/
theorem witness_OperationsKeepParametersAndInputs :
    exec .abortsync (abortStart true) = .next (after .abortsync (abortStart true)) := rfl

theorem witness_OutputsPerOperationAreBounded :
    exec .checkerr (answering base [] [] [] [3]) = .next (after .checkerr (answering base [] [] [] [3])) ∧
    Instr.checkerr.port = .command ∧ exec .cbret base = .next (after .cbret base) ∧ Instr.cbret.port = .event :=
  ⟨rfl, rfl, rfl, rfl⟩

theorem witness_OnlyRegrxAndInitChangeReceiveRows :
    exec (.regrx 0 false 0x181 0x7FF 0x1000 0x2000) base =
      .next (after (.regrx 0 false 0x181 0x7FF 0x1000 0x2000) base) ∧
    ¬ IsInit (.regrx 0 false 0x181 0x7FF 0x1000 0x2000) ∧
    (∀ idx rtr id mask ctx cb,
      Instr.regrx 0 false 0x181 0x7FF 0x1000 0x2000 = .regrx idx rtr id mask ctx cb → idx.toNat ≠ 1) := by
  refine ⟨rfl, by simp [IsInit], ?_⟩
  intro idx _ _ _ _ _ h
  injection h with h
  subst h
  decide

theorem witness_TransmitRowFieldsHaveOneWriter :
    exec .abortsync (abortStart true) = .next (after .abortsync (abortStart true)) ∧ ¬ IsInit .abortsync ∧
    (∀ sync idx rtr dlc id, Instr.abortsync = .regtx sync idx rtr dlc id → idx.toNat ≠ 0) ∧
    (∀ idx data, Instr.abortsync = .txdata idx data → idx.toNat ≠ 0) :=
  ⟨rfl, by simp [IsInit], by simp, by simp⟩

/-- TXDATA meets the premises of every clause. -/
theorem witness_RegistersHaveTheirWriters :
    exec (.txdata 3 payload1122) (fullStart true) = .next (after (.txdata 3 payload1122) (fullStart true)) ∧
    ¬ IsInit (.txdata 3 payload1122) ∧ (∀ idx, Instr.txdata 3 payload1122 ≠ .send idx) ∧
    Instr.txdata 3 payload1122 ≠ .drain ∧ Instr.txdata 3 payload1122 ≠ .abortsync ∧
    Instr.txdata 3 payload1122 ≠ .txconf ∧ Instr.txdata 3 payload1122 ≠ .setnormal ∧
    Instr.txdata 3 payload1122 ≠ .disable ∧ Instr.txdata 3 payload1122 ≠ .checkerr ∧
    Instr.txdata 3 payload1122 ≠ .cbret ∧ (∀ rtr dlc id data, Instr.txdata 3 payload1122 ≠ .rxframe rtr dlc id data) :=
  ⟨rfl, by simp [IsInit], by simp, by simp, by simp, by simp, by simp, by simp, by simp, by simp, by simp⟩

theorem witness_ResultCodesHaveTheirCommands :
    exec (.send 3) (fullStart true) = .next (after (.send 3) (fullStart true)) ∧ (Instr.send 3).port = .command ∧
    exec .txconf base = .next (after .txconf base) ∧ Instr.txconf.port = .event := ⟨rfl, rfl, rfl, rfl⟩

/-- A report by SEND; resets and a report by CHECKERR. -/
theorem witness_ConditionsHaveTheirReporters :
    exec (.send 3) (fullStart true) = .next (after (.send 3) (fullStart true)) ∧
    (after (.send 3) (fullStart true)).trace = (fullStart true).trace ++
      [.emReport .transmitOverflow (Config.subcode .transmitOverflow) 0x00000604, .result .transmitOverflow] ∧
    exec .checkerr (answering base [] [] [] [3]) = .next (after .checkerr (answering base [] [] [] [3])) ∧
    (after .checkerr (answering base [] [] [] [3])).trace = (answering base [] [] [] [3]).trace ++
      [.htiErrors, .emReset .busOff 3, .emReport .busWarning (Config.subcode .busWarning) 3, .result .ok] :=
  ⟨rfl, rfl, rfl, rfl⟩

theorem witness_NoEarlyOverflowOrPassiveReport :
    exec .checkerr (answering base [] [] [] [3]) = .next (after .checkerr (answering base [] [] [] [3])) ∧
    (answering base [] [] [] [3]).mod.firstFrameSent = false ∧
    (after .checkerr (answering base [] [] [] [3])).trace = (answering base [] [] [] [3]).trace ++
      [.htiErrors, .emReset .busOff 3, .emReport .busWarning (Config.subcode .busWarning) 3, .result .ok] := ⟨rfl, rfl, rfl⟩

theorem witness_QueuedFirstFrameBlocksTransmission :
    exec .drain (fullStart false) = .next (after .drain (fullStart false)) ∧ ¬ IsInit .drain ∧
    (fullStart false).mod.firstFrameSent = false ∧ (fullStart false).mod.pendingTransmitCount ≠ 0 ∧
    (after .drain (fullStart false)).trace = (fullStart false).trace ++ [.result .ok] :=
  ⟨rfl, by simp [IsInit], rfl, by decide, rfl⟩

theorem witness_NormalModeIsNeverRead :
    exec (.send 3) (fullStart true) = .next (after (.send 3) (fullStart true)) := rfl

theorem witness_UnspecifiedPowerOnStateIsNeverRead :
    State.reset.mod.initialised = false ∧ ({ base.mod with initialised := false } : ModuleState).initialised = false := by
  decide

/-- An initialised state under the refuse policy that meets the invariant, with a queued frame and a DRAIN to come whose
write succeeds. -/
def queued : State :=
  { withTx base 3 (row3 true) with
    mod := { (withTx base 3 (row3 true)).mod with pendingTransmitCount := 1, firstFrameSent := true }
    cmdIn := [0x80000000]
    answers := ⟨[], [], [true], []⟩ }

theorem queued_inv : queued.Inv := by
  have hb : queued.mod.rx = List.replicate 8 RxSlot.zero := rfl
  have ht : queued.mod.tx = [TxSlot.zero, TxSlot.zero, TxSlot.zero, row3 true, TxSlot.zero, TxSlot.zero, TxSlot.zero,
    TxSlot.zero] := rfl
  intro _
  refine ⟨⟨rfl, rfl, by decide, by decide⟩, ⟨by decide, by decide⟩, ?_, ?_, rfl, by decide, by unfold CountCovers; decide,
    fun _ => ⟨by unfold CountExact; decide, by unfold LengthsOk; decide, ?_⟩⟩
  · rw [hb]; intro r hr
    obtain rfl : r = RxSlot.zero := (List.mem_replicate.mp hr).2
    exact ⟨rfl, rfl, fun _ => rfl⟩
  · rw [ht]; unfold TxSlot.Sound encodedOk; decide
  · unfold QueuedRegistered; decide

theorem witness_EveryStepKeepsTheInvariant :
    queued.Inv ∧ queued.mod.initialised = true ∧ step queued = .next (stepped queued) := ⟨queued_inv, rfl, rfl⟩

theorem witness_CountEqualsFullSlotsAfterEveryStep :
    queued.Inv ∧ queued.params.usage = .refuse ∧ step queued = .next (stepped queued) ∧
    (stepped queued).mod.initialised = true := ⟨queued_inv, rfl, rfl, rfl⟩

theorem witness_DrainAndAbortsyncAlwaysComplete : queued.Inv ∧ queued.mod.initialised = true := ⟨queued_inv, rfl⟩

/-- An uninitialised state, and an initialised one with a frame to dispatch. -/
theorem witness_LiteralHardwareAlwaysGoesOn :
    ((lax State.reset).Inv ∧ (lax State.reset).params.usage = .literal ∧
      (lax State.reset).mod.pendingTransmitCount ≠ 0xFFFF) ∧
    ((lax queued).Inv ∧ (lax queued).params.usage = .literal ∧ (lax queued).mod.pendingTransmitCount ≠ 0xFFFF ∧
      (∀ rtr dlc id data, Instr.rxframe false 0 0 zeroPayload = .rxframe rtr dlc id data → (lax queued).mod.rxBusy = false)) := by
  refine ⟨⟨fun h => absurd h (by decide), rfl, by decide⟩, ?_, rfl, by decide, fun _ _ _ _ _ => rfl⟩
  intro h
  obtain ⟨h1, h2, h3, h4, h5, h6, h7, _⟩ := queued_inv h
  exact ⟨h1, h2, h3, h4, h5, h6, h7, fun hl => absurd hl (by decide)⟩

end Sys2Proof.Tests
end

