-- ==== Sys2Proof/Proofs/Scope.lean ====
section
/-! PROOFS of the statements of spec/00_scope.md: the encodings of R12 as numbers, the collaborator's answers (R10, R182), and
what every operation keeps (R6, R59, R70). -/

namespace Sys2Proof.Machine

/-! ### The encodings as numbers (R12) -/

theorem bitEncoded_toNat (b : Bool) : (bitEncoded b).toNat = b.toNat := by cases b <;> rfl

/-- Eleven bits at 12:2 and one at 1 do not overlap, so the disjunction of R12 is a sum. -/
theorem shiftedOr_toNat (m : CanId) (b : Bool) :
    (m.setWidth 16 <<< 2 ||| bitEncoded b <<< 1).toNat = 4 * m.toNat + 2 * b.toNat := by
  have hm : (m.setWidth 16 <<< 2).toNat = m.toNat <<< 2 := by
    simp only [BitVec.toNat_shiftLeft, BitVec.toNat_setWidth, Nat.shiftLeft_eq]; omega
  have hb : (bitEncoded b <<< 1).toNat = 2 * b.toNat := by
    rw [BitVec.toNat_shiftLeft, bitEncoded_toNat]; cases b <;> rfl
  have hlt : 2 * b.toNat < 2 ^ 2 := by cases b <;> decide
  rw [BitVec.toNat_or, hm, hb, ← Nat.shiftLeft_add_eq_or_of_lt hlt, Nat.shiftLeft_eq]
  omega

theorem encId_toNat (id : CanId) (rtr : Bool) : (encId id rtr).toNat = 4 * id.toNat + 2 * rtr.toNat :=
  shiftedOr_toNat id rtr

theorem encMask_fold_toNat (m : CanId) (rtr : Bool) :
    (encMask .fold m rtr).toNat = 4 * m.toNat + 2 * rtr.toNat := shiftedOr_toNat m rtr

theorem encMask_alwaysOne_toNat (m : CanId) (rtr : Bool) : (encMask .alwaysOne m rtr).toNat = 4 * m.toNat + 2 :=
  shiftedOr_toNat m true

theorem decId_toNat (e : Encoded) : (decId e).toNat = e.toNat / 4 % 2048 := by
  simp [decId, BitVec.extractLsb'_toNat, Nat.shiftRight_eq_div_pow]

theorem decRtr_toNat (e : Encoded) : (decRtr e).toNat = e.toNat / 2 % 2 := Nat.toNat_testBit e.toNat 1

@[simp] theorem decId_encId (id : CanId) (rtr : Bool) : decId (encId id rtr) = id := by
  apply BitVec.eq_of_toNat_eq
  have hrtr := rtr.toNat_le
  rw [decId_toNat, encId_toNat]
  omega

@[simp] theorem decRtr_encId (id : CanId) (rtr : Bool) : decRtr (encId id rtr) = rtr := by
  have hrtr := rtr.toNat_le
  have hnum : (decRtr (encId id rtr)).toNat = rtr.toNat := by rw [decRtr_toNat, encId_toNat]; omega
  rw [← Bool.ofNat_toNat (decRtr _), hnum, Bool.ofNat_toNat]

/-- Settles O18: the two fields do not overlap, and the inverses follow from the numbers. -/
theorem identifierEncodingRoundTrip : Obligations.IdentifierEncodingRoundTrip :=
  ⟨fun id rtr => ⟨encId_toNat id rtr, encMask_fold_toNat id rtr, encMask_alwaysOne_toNat id rtr,
    decId_encId id rtr, decRtr_encId id rtr⟩, fun e => ⟨decId_toNat e, decRtr_toNat e⟩⟩

/-! ### The collaborator's answers: each request with a supplied answer, and without (R182, log entry 5) -/

section
variable {s : State}

theorem State.askEnable_of_supplied {a : Bool} {q : List Bool} (h : s.answers.enable = a :: q) :
    s.askEnable = (s.emit .htiEnable).withAnswers { s.answers with enable := q } := by simp [askEnable, h]

theorem State.askEnable_of_none (h : s.answers.enable = []) : s.askEnable = (s.emit .htiEnable).draw := by
  simp [askEnable, h]

theorem State.askTxFree_of_supplied {a : Bool} {q : List Bool} (h : s.answers.txFree = a :: q) :
    s.askTxFree = (s.emit .htiTxFree).withAnswers { s.answers with txFree := q } := by simp [askTxFree, h]

theorem State.askTxFree_of_none (h : s.answers.txFree = []) : s.askTxFree = (s.emit .htiTxFree).draw := by
  simp [askTxFree, h]

theorem State.askWrite_of_supplied {a : Bool} {q : List Bool} (h : s.answers.write = a :: q) (f : Frame) :
    s.askWrite f = (s.emit (.htiWrite f)).withAnswers { s.answers with write := q } := by simp [askWrite, h]

theorem State.askWrite_of_none (h : s.answers.write = []) (f : Frame) :
    s.askWrite f = (s.emit (.htiWrite f)).draw := by simp [askWrite, h]

theorem State.askErrors_of_supplied {a : Word} {q : List Word} (h : s.answers.errors = a :: q) :
    s.askErrors = (s.emit .htiErrors).withAnswers { s.answers with errors := q } := by simp [askErrors, h]

theorem State.askErrors_of_none (h : s.answers.errors = []) : s.askErrors = (s.emit .htiErrors).draw := by
  simp [askErrors, h]

end

/-- Settles O11, request by request. -/
theorem suppliedAnswersAreUsedInOrder : Obligations.SuppliedAnswersAreUsedInOrder := by
  refine ⟨fun s a q h => ?_, fun s h => ?_, fun s a q h => ?_, fun s h => ?_,
    fun s f a q h => ?_, fun s f h => ?_, fun s a q h => ?_, fun s h => ?_⟩
  · simp [State.enableAnswer, State.askEnable_of_supplied h, h]
  · simp [State.enableAnswer, State.askEnable_of_none h, h]
  · simp [State.txFreeAnswer, State.askTxFree_of_supplied h, h]
  · simp [State.txFreeAnswer, State.askTxFree_of_none h, h]
  · simp [State.writeAnswer, State.askWrite_of_supplied h, h]
  · simp [State.writeAnswer, State.askWrite_of_none h, h]
  · simp [State.errorsAnswer, State.askErrors_of_supplied h, h]
  · simp [State.errorsAnswer, State.askErrors_of_none h, h]

/-! ### What holds of the next state an operation answers

One rule per shared part of operations, for any predicate of the next state. -/

/-- If the operation answers a next state, `P` holds of it. -/
def NextHolds (P : State → Prop) (o : Host.Outcome State Fault Refusal) : Prop := ∀ t, o = .next t → P t

section
variable {P : State → Prop} {s : State} {body : Host.Outcome State Fault Refusal}

@[simp] theorem nextHolds_next : NextHolds P (.next s) ↔ P s := by simp [NextHolds]

@[simp] theorem nextHolds_refused (why : Refusal) : NextHolds P (.refused why) := by simp [NextHolds]

@[simp] theorem nextHolds_ret (c : Result) : NextHolds P (ret c s) ↔ P (s.emit (.result c)) := nextHolds_next

theorem NextHolds.command (hbad : P (s.emit (.result .illegalArgument)))
    (hbody : s.mod.initialised = true → NextHolds P body) : NextHolds P (command s body) := by
  cases h : s.mod.initialised with
  | true => rw [command_of_initialised h]; exact hbody h
  | false => rw [command_of_uninitialised h]; exact (nextHolds_ret _).mpr hbad

theorem NextHolds.event (hidle : P s) (hbody : s.mod.initialised = true → NextHolds P body) :
    NextHolds P (event s body) := by
  cases h : s.mod.initialised with
  | true => rw [event_of_initialised h]; exact hbody h
  | false => rw [event_of_uninitialised h]; exact nextHolds_next.mpr hidle

theorem NextHolds.txCommand {idx : SlotIndex} (hbad : P (s.emit (.result .illegalArgument)))
    (hbody : s.mod.initialised = true → idx.toNat < s.mod.txCap.toNat → NextHolds P body) :
    NextHolds P (txCommand idx s body) := by
  rcases txCommand_cases idx s body with ⟨hi, hlt, h⟩ | ⟨-, h⟩ <;> rw [h]
  · exact hbody hi hlt
  · exact (nextHolds_ret _).mpr hbad

theorem NextHolds.refuseIf {b : Bool} {why : Refusal} (hbody : b = false → NextHolds P body) :
    NextHolds P (refuseIf b why body) := by
  rcases refuseIf_cases b why body with ⟨-, h⟩ | ⟨hb, h⟩ <;> rw [h]
  · exact nextHolds_refused why
  · exact hbody hb

theorem NextHolds.refuseWhen {b : Bool} {why : Refusal}
    (hbody : (s.params.usage = .literal ∨ b = false) → NextHolds P body) :
    NextHolds P (refuseWhen s b why body) := by
  rcases refuseWhen_cases s b why body with ⟨-, -, h⟩ | ⟨hb, h⟩ <;> rw [h]
  · exact nextHolds_refused why
  · exact hbody hb

end

/-! ### What every operation keeps (R6, R59, R70) -/

/-- The parameters and the words waiting are those of `s`, and the output ports have carried at least what they had in `s`. -/
structure State.Extends (s t : State) : Prop where
  params : t.params = s.params
  cmdIn : t.cmdIn = s.cmdIn
  evIn : t.evIn = s.evIn
  trace : s.trace <+: t.trace

/-! From each update the model makes, through the parts of operations, to the operations themselves. -/

namespace State.Extends
variable {s t : State}

theorem refl (s : State) : s.Extends s := ⟨rfl, rfl, rfl, List.prefix_rfl⟩

theorem trans {u : State} (h : s.Extends t) (h' : t.Extends u) : s.Extends u :=
  ⟨h'.params.trans h.params, h'.cmdIn.trans h.cmdIn, h'.evIn.trans h.evIn, h.trace.trans h'.trace⟩

theorem withMod (h : s.Extends t) (m : ModuleState) : s.Extends (t.withMod m) :=
  ⟨h.params, h.cmdIn, h.evIn, h.trace⟩

theorem withRegistered (h : s.Extends t) (l : List SlotIndex) : s.Extends (t.withRegistered l) :=
  ⟨h.params, h.cmdIn, h.evIn, h.trace⟩

theorem emitAll (h : s.Extends t) (os : List Output) : s.Extends (t.emitAll os) :=
  ⟨h.params, h.cmdIn, h.evIn, h.trace.trans (List.prefix_append _ _)⟩

theorem emit (h : s.Extends t) (o : Output) : s.Extends (t.emit o) := h.emitAll [o]

theorem ret (h : s.Extends t) (c : Result) : NextHolds s.Extends (Machine.ret c t) :=
  (nextHolds_ret c).mpr (h.emit _)

theorem askEnable (h : s.Extends t) : s.Extends t.askEnable := h.trans ⟨by simp, by simp, by simp, by simp⟩

theorem askTxFree (h : s.Extends t) : s.Extends t.askTxFree := h.trans ⟨by simp, by simp, by simp, by simp⟩

theorem askWrite (h : s.Extends t) (f : Frame) : s.Extends (t.askWrite f) :=
  h.trans ⟨by simp, by simp, by simp, by simp⟩

theorem askErrors (h : s.Extends t) : s.Extends t.askErrors := h.trans ⟨by simp, by simp, by simp, by simp⟩

theorem cycleChannel (h : s.Extends t) : s.Extends t.cycleChannel := h.trans ⟨by simp, by simp, by simp, by simp⟩

theorem failedInit (h : s.Extends t) (c : Result) : NextHolds s.Extends (Machine.failedInit c t) := by
  obtain ⟨u, hu, -, htrace, hparams, hcmd, hev, -⟩ := failedInit_spec t c
  rw [hu, nextHolds_next]
  exact h.trans ⟨hparams, hcmd, hev, htrace ▸ List.prefix_append _ _⟩

theorem noteErrors (h : s.Extends t) (e : Word) : s.Extends (Machine.noteErrors e t) := by
  by_cases he : e = t.mod.lastErrorBitmap
  · rw [noteErrors_unchanged t he]; exact h
  · rw [noteErrors_changed t he]; exact (h.withMod _).emitAll _

theorem dispatch (h : s.Extends t) (r : RxSlot) : s.Extends (t.dispatch r) := by
  rw [State.dispatch_eq]
  split
  · exact h
  · exact (h.withMod _).emit _

theorem enqueue (h : s.Extends t) (i : Nat) : NextHolds s.Extends (Machine.enqueue i t) := by
  rcases enqueue_cases t i with ⟨-, he⟩ | ⟨-, he⟩ <;> rw [he]
  · exact nextHolds_refused _
  · exact nextHolds_next.mpr ((h.withMod _).emit _)

theorem dequeueWritten (h : s.Extends t) (i : Nat) : NextHolds s.Extends (Machine.dequeueWritten i t) := by
  rcases dequeueWritten_cases t i with ⟨-, he⟩ | ⟨-, u, he, rfl⟩ <;> rw [he]
  · exact nextHolds_refused _
  · exact nextHolds_next.mpr ((h.withMod _).emit _)

theorem execInit (h : s.Extends t) (txs rxs : Bool) (rate txcap rxcap : BitVec 16) :
    NextHolds s.Extends (Machine.execInit txs rxs rate txcap rxcap t) := by
  unfold Machine.execInit
  split
  · split
    · exact h.failedInit _
    · exact ((h.withMod _).withRegistered _).cycleChannel.ret _
  · exact h.failedInit _

theorem execSetnormal (h : s.Extends t) : NextHolds s.Extends (Machine.execSetnormal t) :=
  .command (h.emit _) fun _ => (h.askEnable.withMod _).ret _

theorem execDisable (h : s.Extends t) : NextHolds s.Extends (Machine.execDisable t) :=
  .command (h.emit _) fun _ => (h.cycleChannel.withMod _).ret _

theorem execRegrx (h : s.Extends t) (idx : SlotIndex) (rtr : Bool) (id mask : CanId) (ctx cb : Word) :
    NextHolds s.Extends (Machine.execRegrx idx rtr id mask ctx cb t) := by
  refine .command (h.emit _) fun _ => ?_
  split
  · exact .refuseIf fun _ => ((h.withMod _).emit _).ret _
  · exact h.ret _

theorem execRegtx (h : s.Extends t) (sync : Bool) (idx : SlotIndex) (rtr : Bool) (dlc : BitVec 4) (id : CanId) :
    NextHolds s.Extends (Machine.execRegtx sync idx rtr dlc id t) :=
  .txCommand (h.emit _) fun _ _ => .refuseWhen fun _ => .refuseWhen fun _ =>
    ((h.withMod _).withRegistered _).ret _

theorem execTxdata (h : s.Extends t) (idx : SlotIndex) (data : Payload) :
    NextHolds s.Extends (Machine.execTxdata idx data t) :=
  .txCommand (h.emit _) fun _ _ => (h.withMod _).ret _

theorem sendOverflow (h : s.Extends t) (r : TxSlot) : NextHolds s.Extends (Machine.sendOverflow r t) := by
  unfold Machine.sendOverflow
  split
  · exact (h.emit _).ret _
  · exact h.ret _

theorem sendDirect (h : s.Extends t) (r : TxSlot) : NextHolds s.Extends (Machine.sendDirect r t) := by
  unfold Machine.sendDirect
  split
  · exact ((h.askWrite _).withMod _).ret _
  · exact (h.askWrite _).ret _

theorem execSend (h : s.Extends t) (idx : SlotIndex) : NextHolds s.Extends (Machine.execSend idx t) := by
  refine .txCommand (h.emit _) fun _ _ => .refuseWhen fun _ => ?_
  split
  · exact h.sendOverflow _
  · split
    · exact h.askTxFree.sendDirect _
    · exact h.askTxFree.enqueue _

theorem drainSlot (h : s.Extends t) (i : Nat) : NextHolds s.Extends (Machine.drainSlot i t) := by
  unfold Machine.drainSlot
  split
  · exact (h.askWrite _).dequeueWritten i
  · exact (h.askWrite _).ret _

theorem execDrain (h : s.Extends t) : NextHolds s.Extends (Machine.execDrain t) := by
  refine .command (h.emit _) fun _ => ?_
  split
  · split
    · exact h.ret _
    · exact h.drainSlot _
  · exact h.ret _

theorem execAbortsync (h : s.Extends t) : NextHolds s.Extends (Machine.execAbortsync t) := by
  refine .command (h.emit _) fun _ => ?_
  split
  · exact nextHolds_refused _
  · have cleared := h.withMod (((t.mod.setSyncAbort false).setTx (abortRows t.mod)).setCount
      (t.mod.pendingTransmitCount - BitVec.ofNat 16 (numQueuedSync t.mod)))
    refine ret ?_ _
    split
    · exact cleared
    · exact cleared.emit _

theorem execCheckerr (h : s.Extends t) : NextHolds s.Extends (Machine.execCheckerr t) :=
  .command (h.emit _) fun _ => (h.askErrors.noteErrors _).ret _

theorem execRxframe (h : s.Extends t) (rtr : Bool) (dlc : BitVec 4) (id : CanId) (data : Payload) :
    NextHolds s.Extends (Machine.execRxframe rtr dlc id data t) := by
  refine .event h fun _ => .refuseIf fun _ => nextHolds_next.mpr ?_
  have buffered := h.withMod (t.mod.setRxBuf ⟨id, rtr, dlc, data⟩)
  split
  · exact buffered
  · exact buffered.dispatch _

theorem execTxconf (h : s.Extends t) : NextHolds s.Extends (Machine.execTxconf t) :=
  .event h fun _ => nextHolds_next.mpr (h.withMod _)

theorem execCbret (h : s.Extends t) : NextHolds s.Extends (Machine.execCbret t) :=
  .event h fun _ => nextHolds_next.mpr (h.withMod _)

theorem exec (h : s.Extends t) (i : Instr) : NextHolds s.Extends (Machine.exec i t) := by
  cases i with
  | init txs rxs rate txcap rxcap => exact h.execInit txs rxs rate txcap rxcap
  | setnormal => exact h.execSetnormal
  | disable => exact h.execDisable
  | regrx idx rtr id mask ctx cb => exact h.execRegrx idx rtr id mask ctx cb
  | regtx sync idx rtr dlc id => exact h.execRegtx sync idx rtr dlc id
  | txdata idx data => exact h.execTxdata idx data
  | send idx => exact h.execSend idx
  | drain => exact h.execDrain
  | abortsync => exact h.execAbortsync
  | checkerr => exact h.execCheckerr
  | rxframe rtr dlc id data => exact h.execRxframe rtr dlc id data
  | txconf => exact h.execTxconf
  | cbret => exact h.execCbret

end State.Extends

/-- Settles O42: every operation is built from updates that write neither parameters nor input words and only append to the
trace. -/
theorem operationsKeepParametersAndInputs : Obligations.OperationsKeepParametersAndInputs := by
  intro i s t h
  obtain ⟨hparams, hcmd, hev, os, htrace⟩ := (State.Extends.refl s).exec i t h
  exact ⟨hparams, hcmd, hev, os, htrace.symm⟩

end Sys2Proof.Machine
end

section
/-! PROOFS of the statements of spec/10_state.md, first part: everything an operation can do to the Module State and the ghost
set, said once, and from it which operation writes which row of the tables (R26, R28, R30, R32). -/

namespace Sys2Proof.Machine

/-- What operation `i`, started in `s`, can leave of the Module State and of the ghost set: one constructor for each way an
operation ends in a next state, with the guards under which it does. -/
inductive Effect (s : State) : Instr → ModuleState → List SlotIndex → Prop
  /-- Failed checks, a refused write, an empty queue, an unchanged bitmap. -/
  | nothing (i : Instr) : Effect s i s.mod s.txRegistered
  /-- R151. -/
  | initDone {txs rxs : Bool} {rate txcap rxcap : BitVec 16} (r : Rate)
      (hargs : initArgumentsOk s.params txs rxs txcap rxcap = true) :
      Effect s (.init txs rxs rate txcap rxcap) (s.mod.afterInit s.params r txcap rxcap) []
  /-- R154. -/
  | initFailed {txs rxs : Bool} {rate txcap rxcap : BitVec 16} {m : ModuleState} (hm : m.initialised = false) :
      Effect s (.init txs rxs rate txcap rxcap) m []
  /-- R155. -/
  | normalSet (b : Bool) : Effect s .setnormal (s.mod.setNormal b) s.txRegistered
  /-- R157. -/
  | disabled : Effect s .disable (s.mod.setNormal false) s.txRegistered
  /-- R121. -/
  | receiveRegistered {idx : SlotIndex} {rtr : Bool} {id mask : CanId} {ctx cb : Word} (hidx : idx.toNat < s.mod.rxCap.toNat)
      (hctx : ctx ≠ 0) (hcb : cb ≠ 0) :
      Effect s (.regrx idx rtr id mask ctx cb)
        (s.mod.setRxRow idx.toNat ⟨encId id rtr, encMask s.params.maskRtr mask rtr, ctx, cb⟩) s.txRegistered
  /-- R101. -/
  | transmitRegistered {sync : Bool} {idx : SlotIndex} {rtr : Bool} {dlc : BitVec 4} {id : CanId}
      (hidx : idx.toNat < s.mod.txCap.toNat)
      (hfull : s.params.usage = .literal ∨ (s.mod.txRow idx.toNat).full = false)
      (hdlc : s.params.usage = .literal ∨ dlcAboveEight dlc = false) :
      Effect s (.regtx sync idx rtr dlc id)
        (s.mod.setTxRow idx.toNat ⟨encId id rtr, dlc, (s.mod.txRow idx.toNat).data, false, sync⟩)
        (s.txRegistered.insert idx)
  /-- R103. -/
  | payloadWritten {idx : SlotIndex} {data : Payload} (hidx : idx.toNat < s.mod.txCap.toNat) :
      Effect s (.txdata idx data) (s.mod.setTxRow idx.toNat { s.mod.txRow idx.toNat with data := data }) s.txRegistered
  /-- R106: written to the hardware at once. -/
  | sent {idx : SlotIndex} :
      Effect s (.send idx) (s.mod.setSyncAbort (s.mod.txRow idx.toNat).syncFlag) s.txRegistered
  /-- R106: queued. -/
  | queued {idx : SlotIndex} (hidx : idx.toNat < s.mod.txCap.toNat)
      (hreg : s.params.usage = .literal ∨ idx ∈ s.txRegistered)
      (hfull : (s.mod.txRow idx.toNat).full = false) (hcount : s.mod.pendingTransmitCount ≠ 0xFFFF) :
      Effect s (.send idx)
        ((s.mod.setTxRow idx.toNat { s.mod.txRow idx.toNat with full := true }).setCount (s.mod.pendingTransmitCount + 1))
        s.txRegistered
  /-- R108. -/
  | drained {i : Nat} (hi : firstFull s.mod = some i) (hcount : s.mod.pendingTransmitCount ≠ 0) :
      Effect s .drain
        (((s.mod.setTxRow i { s.mod.txRow i with full := false }).setCount (s.mod.pendingTransmitCount - 1)).setSyncAbort
          (s.mod.txRow i).syncFlag) s.txRegistered
  /-- R110. -/
  | aborted (hcount : numQueuedSync s.mod ≤ s.mod.pendingTransmitCount.toNat) :
      Effect s .abortsync
        (((s.mod.setSyncAbort false).setTx (abortRows s.mod)).setCount
          (s.mod.pendingTransmitCount - BitVec.ofNat 16 (numQueuedSync s.mod))) s.txRegistered
  /-- R142. -/
  | errorsNoted (e : Word) :
      Effect s .checkerr
        ((s.mod.setLastErrors e).setPassive (passiveAfter s.mod.firstFrameSent s.mod.passiveActive e)) s.txRegistered
  /-- R129: buffered, not dispatched. -/
  | buffered {rtr : Bool} {dlc : BitVec 4} {id : CanId} {data : Payload} :
      Effect s (.rxframe rtr dlc id data) (s.mod.setRxBuf ⟨id, rtr, dlc, data⟩) s.txRegistered
  /-- R125. -/
  | dispatched {rtr : Bool} {dlc : BitVec 4} {id : CanId} {data : Payload} :
      Effect s (.rxframe rtr dlc id data) ((s.mod.setRxBuf ⟨id, rtr, dlc, data⟩).setRxBusy true) s.txRegistered
  /-- R112. -/
  | confirmed : Effect s .txconf ((s.mod.setFirstSent true).setSyncAbort false) s.txRegistered
  /-- R131. -/
  | returned : Effect s .cbret (s.mod.setRxBusy false) s.txRegistered

/-! ### Every operation has an effect of this list -/

/-- State `t` is what operation `i` can leave of `s`, as far as `Effect` speaks of it. -/
def State.Affected (s : State) (i : Instr) (t : State) : Prop := Effect s i t.mod t.txRegistered

namespace State.Affected
variable (s : State)

theorem nothing (i : Instr) : s.Affected i s := Effect.nothing i

theorem execInit (txs rxs : Bool) (rate txcap rxcap : BitVec 16) :
    NextHolds (s.Affected (.init txs rxs rate txcap rxcap)) (Machine.execInit txs rxs rate txcap rxcap s) := by
  have failed (c : Result) : NextHolds (s.Affected (.init txs rxs rate txcap rxcap)) (failedInit c s) :=
    (nextHolds_ret c).mpr (Effect.initFailed rfl)
  unfold Machine.execInit
  split
  next hargs =>
    split
    · exact failed _
    next r _ =>
      refine (nextHolds_ret _).mpr ?_
      simpa [State.Affected] using Effect.initDone r hargs
  · exact failed _

theorem execSetnormal : NextHolds (s.Affected .setnormal) (Machine.execSetnormal s) := by
  refine .command (nothing s _) fun _ => (nextHolds_ret _).mpr ?_
  simpa [State.Affected] using Effect.normalSet s.enableAnswer

theorem execDisable : NextHolds (s.Affected .disable) (Machine.execDisable s) := by
  refine .command (nothing s _) fun _ => (nextHolds_ret _).mpr ?_
  simpa [State.Affected] using Effect.disabled

theorem execRegrx (idx : SlotIndex) (rtr : Bool) (id mask : CanId) (ctx cb : Word) :
    NextHolds (s.Affected (.regrx idx rtr id mask ctx cb)) (Machine.execRegrx idx rtr id mask ctx cb s) := by
  refine .command (nothing s _) fun _ => ?_
  split
  next h =>
    obtain ⟨hidx, hctx, hcb⟩ := h
    exact .refuseIf fun _ => (nextHolds_ret _).mpr (Effect.receiveRegistered hidx hctx hcb)
  · exact (nextHolds_ret _).mpr (nothing s _)

theorem execRegtx (sync : Bool) (idx : SlotIndex) (rtr : Bool) (dlc : BitVec 4) (id : CanId) :
    NextHolds (s.Affected (.regtx sync idx rtr dlc id)) (Machine.execRegtx sync idx rtr dlc id s) :=
  .txCommand (nothing s _) fun _ hidx => .refuseWhen fun hfull => .refuseWhen fun hdlc =>
    (nextHolds_ret _).mpr (Effect.transmitRegistered hidx hfull hdlc)

theorem execTxdata (idx : SlotIndex) (data : Payload) :
    NextHolds (s.Affected (.txdata idx data)) (Machine.execTxdata idx data s) :=
  .txCommand (nothing s _) fun _ hidx => (nextHolds_ret _).mpr (Effect.payloadWritten hidx)

theorem sendOverflow (idx : SlotIndex) (r : TxSlot) :
    NextHolds (s.Affected (.send idx)) (Machine.sendOverflow r s) := by
  unfold Machine.sendOverflow
  split <;> exact (nextHolds_ret _).mpr (nothing s _)

theorem sendDirect (idx : SlotIndex) :
    NextHolds (s.Affected (.send idx)) (Machine.sendDirect (s.mod.txRow idx.toNat) s.askTxFree) := by
  unfold Machine.sendDirect
  split <;> refine (nextHolds_ret _).mpr ?_
  · simpa [State.Affected, State.noteWritten] using Effect.sent
  · simpa [State.Affected] using Effect.nothing _

theorem execSend (idx : SlotIndex) : NextHolds (s.Affected (.send idx)) (Machine.execSend idx s) := by
  refine .txCommand (nothing s _) fun _ hidx => .refuseWhen fun hreg => ?_
  split
  · exact sendOverflow s idx _
  next hfull =>
    split
    · exact sendDirect s idx
    · rcases enqueue_cases s.askTxFree idx.toNat with ⟨-, he⟩ | ⟨hcount, he⟩ <;> rw [he]
      · exact nextHolds_refused _
      · rw [State.askTxFree_mod] at hcount
        refine nextHolds_next.mpr ?_
        simpa [State.Affected] using Effect.queued hidx (by simpa using hreg) (by simpa using hfull) hcount

theorem execDrain : NextHolds (s.Affected .drain) (Machine.execDrain s) := by
  refine .command (nothing s _) fun _ => ?_
  split
  · split
    · exact (nextHolds_ret _).mpr (nothing s _)
    next i hi =>
      unfold drainSlot
      split
      · rcases dequeueWritten_cases (s.askWrite (wireFrame (s.mod.txRow i))) i with ⟨-, he⟩ | ⟨hcount, t, he, rfl⟩ <;>
          rw [he]
        · exact nextHolds_refused _
        · rw [State.askWrite_mod] at hcount
          refine nextHolds_next.mpr ?_
          simpa [State.Affected] using Effect.drained hi hcount
      · refine (nextHolds_ret _).mpr ?_
        simpa [State.Affected] using Effect.nothing _
  · exact (nextHolds_ret _).mpr (nothing s _)

theorem execAbortsync : NextHolds (s.Affected .abortsync) (Machine.execAbortsync s) := by
  refine .command (nothing s _) fun _ => ?_
  split
  · exact nextHolds_refused _
  next h =>
    refine (nextHolds_ret _).mpr ?_
    split <;> exact Effect.aborted (Nat.not_lt.mp h)

theorem execCheckerr : NextHolds (s.Affected .checkerr) (Machine.execCheckerr s) := by
  refine .command (nothing s _) fun _ => (nextHolds_ret _).mpr ?_
  by_cases he : s.errorsAnswer = s.askErrors.mod.lastErrorBitmap
  · rw [noteErrors_unchanged _ he]
    simpa [State.Affected] using Effect.nothing _
  · rw [noteErrors_changed _ he]
    simpa [State.Affected] using Effect.errorsNoted _

theorem execRxframe (rtr : Bool) (dlc : BitVec 4) (id : CanId) (data : Payload) :
    NextHolds (s.Affected (.rxframe rtr dlc id data)) (Machine.execRxframe rtr dlc id data s) := by
  refine .event (nothing s _) fun _ => .refuseIf fun _ => nextHolds_next.mpr ?_
  split
  · exact Effect.buffered
  · rw [State.dispatch_eq]
    split
    · exact Effect.buffered
    · exact Effect.dispatched

theorem execTxconf : NextHolds (s.Affected .txconf) (Machine.execTxconf s) :=
  .event (nothing s _) fun _ => nextHolds_next.mpr Effect.confirmed

theorem execCbret : NextHolds (s.Affected .cbret) (Machine.execCbret s) :=
  .event (nothing s _) fun _ => nextHolds_next.mpr Effect.returned

end State.Affected

/-- Everything an operation can do to the Module State and the ghost set. -/
theorem exec_affected (i : Instr) (s : State) : NextHolds (s.Affected i) (exec i s) := by
  cases i with
  | init txs rxs rate txcap rxcap => exact .execInit s txs rxs rate txcap rxcap
  | setnormal => exact .execSetnormal s
  | disable => exact .execDisable s
  | regrx idx rtr id mask ctx cb => exact .execRegrx s idx rtr id mask ctx cb
  | regtx sync idx rtr dlc id => exact .execRegtx s sync idx rtr dlc id
  | txdata idx data => exact .execTxdata s idx data
  | send idx => exact .execSend s idx
  | drain => exact .execDrain s
  | abortsync => exact .execAbortsync s
  | checkerr => exact .execCheckerr s
  | rxframe rtr dlc id data => exact .execRxframe s rtr dlc id data
  | txconf => exact .execTxconf s
  | cbret => exact .execCbret s

/-! ### Which operation writes which row -/

theorem ModuleState.rxRow_setRxRow_ne {m : ModuleState} {i j : Nat} (h : i ≠ j) (r : RxSlot) :
    (m.setRxRow i r).rxRow j = m.rxRow j := by
  simp [rxRow_setRxRow, h]

theorem ModuleState.txRow_setTxRow_ne {m : ModuleState} {i j : Nat} (h : i ≠ j) (r : TxSlot) :
    (m.setTxRow i r).txRow j = m.txRow j := by
  simp [txRow_setTxRow, h]

/-- What a written row keeps of the row before, every row of the table keeps. -/
theorem ModuleState.txRow_setTxRow_keeps {α : Type} (f : TxSlot → α) {m : ModuleState} {i : Nat} {r : TxSlot}
    (h : f r = f (m.txRow i)) (j : Nat) : f ((m.setTxRow i r).txRow j) = f (m.txRow j) := by
  rw [txRow_setTxRow]
  split
  next hij => rw [h, hij.1]
  · rfl

theorem txRow_setTx_abortRows (m : ModuleState) (j : Nat) :
    (m.setTx (abortRows m)).txRow j = if j < m.txCap.toNat then abortRow (m.txRow j) else m.txRow j := by
  simp only [ModuleState.txRow, ModuleState.setTx_tx, List.getD_eq_getElem?_getD, abortRows_getElem?]
  split
  · cases m.tx[j]? <;> rfl
  · rfl

/-- What ABORTSYNC keeps of every row it treats, the table keeps. -/
theorem txRow_setTx_abortRows_keeps {α : Type} (f : TxSlot → α) {m : ModuleState} (h : ∀ r, f (abortRow r) = f r)
    (j : Nat) : f ((m.setTx (abortRows m)).txRow j) = f (m.txRow j) := by
  rw [txRow_setTx_abortRows]
  split
  · exact h _
  · rfl

/-- The fields of a transmit row that REGTX registers and nothing else writes (R28, R32). -/
def TxSlot.registration (r : TxSlot) : Encoded × BitVec 4 × Bool := (r.ident, r.dlc, r.syncFlag)

@[simp] theorem abortRow_registration (r : TxSlot) : (abortRow r).registration = r.registration := by
  unfold abortRow; split <;> rfl

@[simp] theorem abortRow_data (r : TxSlot) : (abortRow r).data = r.data := by
  unfold abortRow; split <;> rfl

namespace Effect
variable {s : State} {i : Instr} {m : ModuleState} {l : List SlotIndex} {j : Nat}

theorem keeps_rxRow (h : Effect s i m l) (hinit : ¬ IsInit i)
    (hj : ∀ idx rtr id mask ctx cb, i = .regrx idx rtr id mask ctx cb → idx.toNat ≠ j) : m.rxRow j = s.mod.rxRow j := by
  cases h with
  | initDone | initFailed => exact absurd ⟨_, _, _, _, _, rfl⟩ hinit
  | receiveRegistered => exact ModuleState.rxRow_setRxRow_ne (hj _ _ _ _ _ _ rfl) _
  | _ => rfl

theorem keeps_registration (h : Effect s i m l) (hinit : ¬ IsInit i)
    (hj : ∀ sync idx rtr dlc id, i = .regtx sync idx rtr dlc id → idx.toNat ≠ j) :
    (m.txRow j).registration = (s.mod.txRow j).registration := by
  cases h with
  | initDone | initFailed => exact absurd ⟨_, _, _, _, _, rfl⟩ hinit
  | transmitRegistered => exact congrArg _ (ModuleState.txRow_setTxRow_ne (hj _ _ _ _ _ rfl) _)
  | payloadWritten | queued | drained => exact ModuleState.txRow_setTxRow_keeps TxSlot.registration (by rfl) j
  | aborted => exact txRow_setTx_abortRows_keeps TxSlot.registration abortRow_registration j
  | _ => rfl

theorem keeps_data (h : Effect s i m l) (hinit : ¬ IsInit i)
    (hj : ∀ idx data, i = .txdata idx data → idx.toNat ≠ j) : (m.txRow j).data = (s.mod.txRow j).data := by
  cases h with
  | initDone | initFailed => exact absurd ⟨_, _, _, _, _, rfl⟩ hinit
  | payloadWritten => exact congrArg _ (ModuleState.txRow_setTxRow_ne (hj _ _ rfl) _)
  | transmitRegistered | queued | drained => exact ModuleState.txRow_setTxRow_keeps TxSlot.data (by rfl) j
  | aborted => exact txRow_setTx_abortRows_keeps TxSlot.data abortRow_data j
  | _ => rfl

end Effect

/-- Settles O44: the only effect that writes a receive row outside INIT is REGRX's, at its own index. -/
theorem onlyRegrxAndInitChangeReceiveRows : Obligations.OnlyRegrxAndInitChangeReceiveRows :=
  fun i s t _ h hinit hj => Effect.keeps_rxRow (exec_affected i s t h) hinit hj

/-- Settles O45: outside INIT the registration is written by REGTX's effect only and the payload by TXDATA's; the other
effects on transmit rows write `full` only. -/
theorem transmitRowFieldsHaveOneWriter : Obligations.TransmitRowFieldsHaveOneWriter := by
  intro i s t j h hinit
  have effect : Effect s i t.mod t.txRegistered := exec_affected i s t h
  refine ⟨fun hj => ?_, effect.keeps_data hinit⟩
  simpa [TxSlot.registration] using effect.keeps_registration hinit hj

end Sys2Proof.Machine
end

section
/-! PROOFS of the statements of spec/10_state.md, second part: the invariant of an initialised block, kept by every effect and so
by every operation and every step, and what follows from it for the count of queued slots (R33, R115). -/

namespace Sys2Proof.Machine

/-! ### The clauses of the invariant, each under a name -/

/-- R22, R29: what the invariant asks of one transmit row. -/
structure TxSlot.Allowed (p : Params) (r : TxSlot) : Prop where
  sound : r.Sound
  length : p.usage = .refuse → r.dlc.toNat ≤ 8

/-- R33: what the invariant asks of the number of full slots and the count. -/
structure CountFits (p : Params) (full count : Nat) : Prop where
  covers : full ≤ count
  exact : p.usage = .refuse → full = count

/-- What `State.Inv` says of an initialised state, its clauses sorted by the part of the state they speak of. -/
structure State.Consistent (s : State) : Prop where
  tablesFit : TablesFit s
  unusedClear : UnusedRowsClear s
  rxSound : ∀ r ∈ s.mod.rx, r.Sound
  txAllowed : ∀ r ∈ s.mod.tx, r.Allowed s.params
  filteringOff : s.mod.hardwareFilteringEnabled = false
  passiveConfirmed : s.mod.passiveActive = true → s.mod.firstFrameSent = true
  countFits : CountFits s.params (numFull s.mod) s.mod.pendingTransmitCount.toNat
  queuedRegistered : s.params.usage = .refuse → QueuedRegistered s

theorem State.inv_iff {s : State} : s.Inv ↔ (s.mod.initialised = true → s.Consistent) := by
  refine forall_congr' fun _ => ⟨?_, fun h => ?_⟩
  · rintro ⟨hfit, hclear, hrx, htx, hfilter, hpassive, hcovers, hrefuse⟩
    exact ⟨hfit, hclear, hrx, fun r hr => ⟨htx r hr, fun hu => (hrefuse hu).2.1 r hr⟩, hfilter, hpassive,
      ⟨hcovers, fun hu => (hrefuse hu).1⟩, fun hu => (hrefuse hu).2.2⟩
  · exact ⟨h.tablesFit, h.unusedClear, h.rxSound, fun r hr => (h.txAllowed r hr).sound, h.filteringOff,
      h.passiveConfirmed, h.countFits.covers,
      fun hu => ⟨h.countFits.exact hu, fun r hr => (h.txAllowed r hr).length hu, h.queuedRegistered hu⟩⟩

/-! ### Rows as the operations write them -/

/-- R22: bits 15:13 and bit 0 of an encoded identifier are 0, bit by bit. -/
theorem encodedOk_encId (id : CanId) (rtr : Bool) : encodedOk (encId id rtr) := by
  apply BitVec.eq_of_getLsbD_eq
  intro b hb
  interval_cases b <;> simp [encId, bitEncoded]

/-- A stored mask is an encoded identifier, under either reading of `MASK_RTR`. -/
theorem encodedOk_encMask (k : MaskRtr) (m : CanId) (rtr : Bool) : encodedOk (encMask k m rtr) := by
  cases k
  · exact encodedOk_encId m rtr
  · exact encodedOk_encId m true

theorem RxSlot.sound_zero : RxSlot.zero.Sound := ⟨rfl, rfl, fun _ => rfl⟩

theorem TxSlot.allowed_zero (p : Params) : TxSlot.zero.Allowed p := ⟨rfl, fun _ => Nat.zero_le _⟩

/-- A row read is a row of the table or, beyond it, the cleared row. -/
theorem ModuleState.txRow_allowed {p : Params} {m : ModuleState} (h : ∀ r ∈ m.tx, r.Allowed p) (i : Nat) :
    (m.txRow i).Allowed p := by
  rw [txRow, List.getD_eq_getElem?_getD]
  cases hi : m.tx[i]? with
  | none => exact TxSlot.allowed_zero p
  | some r => exact h r (List.mem_of_getElem? hi)

theorem abortRow_allowed {p : Params} {r : TxSlot} (h : r.Allowed p) : (abortRow r).Allowed p := by
  unfold abortRow
  split
  · exact ⟨h.sound, h.length⟩
  · exact h

theorem abortRow_full (r : TxSlot) : (abortRow r).full = (r.full && !r.syncFlag) := by
  unfold abortRow queuedSync
  cases hf : r.full <;> cases hs : r.syncFlag <;> simp [hf]

/-! ### How the number of full slots changes -/

theorem length_rowsInUse (m : ModuleState) : (rowsInUse m).length = min m.txCap.toNat m.tx.length := List.length_take

theorem getElem_rowsInUse {m : ModuleState} {i : Nat} (h : i < (rowsInUse m).length) :
    (rowsInUse m)[i] = m.txRow i := by
  have hlen : i < m.tx.length := by rw [length_rowsInUse] at h; omega
  simp [rowsInUse, ModuleState.txRow, List.getD_eq_getElem?_getD, hlen]

theorem numFull_setTxRow {m : ModuleState} {i : Nat} (r : TxSlot) (hcap : i < m.txCap.toNat) (hlen : i < m.tx.length) :
    numFull (m.setTxRow i r) + (m.txRow i).full.toNat = numFull m + r.full.toNat := by
  have hi : i < (rowsInUse m).length := by rw [length_rowsInUse]; omega
  have hset : rowsInUse (m.setTxRow i r) = (rowsInUse m).set i r := by simp [rowsInUse, List.take_set]
  have hcount : numFull (m.setTxRow i r) = numFull m - (m.txRow i).full.toNat + r.full.toNat := by
    rw [numFull, hset, List.countP_set hi, getElem_rowsInUse hi]
    simp [Bool.toNat, Bool.cond_eq_ite, numFull]
  have hold : (m.txRow i).full.toNat ≤ numFull m := by
    cases h : (m.txRow i).full with
    | false => exact Nat.zero_le _
    | true => exact List.countP_pos_iff.mpr ⟨_, List.getElem_mem hi, by rwa [getElem_rowsInUse hi]⟩
  omega

theorem numFull_pos {m : ModuleState} {i : Nat} (h : firstFull m = some i) : 0 < numFull m := by
  obtain ⟨hi, hf, -⟩ := List.findIdx?_eq_some_iff_getElem.mp h
  exact List.countP_pos_iff.mpr ⟨_, List.getElem_mem hi, hf⟩

theorem numQueuedSync_le_numFull (m : ModuleState) : numQueuedSync m ≤ numFull m :=
  List.countP_mono_left fun _ _ h => (Bool.and_eq_true_iff.mp h).1

theorem countP_full_map_abortRow (rows : List TxSlot) :
    (rows.map abortRow).countP (·.full) + rows.countP queuedSync = rows.countP (·.full) := by
  induction rows with
  | nil => rfl
  | cons r rows ih =>
    obtain ⟨ident, dlc, data, full, sync⟩ := r
    simp only [List.map_cons, List.countP_cons, abortRow_full, queuedSync]
    cases full <;> cases sync <;> simp [-List.countP_map] <;> omega

/-- ABORTSYNC takes from the full slots those it counts. -/
theorem numFull_setTx_abortRows (m : ModuleState) :
    numFull (m.setTx (abortRows m)) + numQueuedSync m = numFull m := by
  have hused : rowsInUse (m.setTx (abortRows m)) = (rowsInUse m).map abortRow := by
    apply List.ext_getElem?
    intro j
    simp only [rowsInUse, ModuleState.setTx_tx, ModuleState.setTx_txCap, List.getElem?_take, List.getElem?_map,
      abortRows_getElem?]
    split <;> rfl
  rw [numFull, hused]
  exact countP_full_map_abortRow _

/-- ABORTSYNC leaves the rows at and beyond the capacity. -/
theorem drop_abortRows (m : ModuleState) : (abortRows m).drop m.txCap.toNat = m.tx.drop m.txCap.toNat := by
  apply List.ext_getElem?
  intro j
  simp [abortRows_getElem?]

theorem forall_mem_abortRows {P : TxSlot → Prop} {m : ModuleState} (h : ∀ r ∈ m.tx, P r)
    (habort : ∀ r, P r → P (abortRow r)) : ∀ r ∈ abortRows m, P r := by
  intro r hr
  rcases List.mem_append.mp hr with hused | hunused
  · obtain ⟨r', hr', rfl⟩ := List.mem_map.mp hused
    exact habort r' (h r' (List.mem_of_mem_take hr'))
  · exact h r (List.mem_of_mem_drop hunused)

/-- A count that covers what is taken from it does not wrap. -/
theorem toNat_sub_ofNat {c : BitVec 16} {k : Nat} (h : k ≤ c.toNat) : (c - BitVec.ofNat 16 k).toNat = c.toNat - k := by
  have hc := c.isLt
  rw [BitVec.toNat_sub, BitVec.toNat_ofNat]
  omega

theorem toNat_add_one {c : BitVec 16} (h : c ≠ 0xFFFF) : (c + 1).toNat = c.toNat + 1 := by bv_omega

theorem toNat_sub_one {c : BitVec 16} (h : c ≠ 0) : (c - 1).toNat + 1 = c.toNat := by bv_omega

theorem numFull_le_txCap (m : ModuleState) : numFull m ≤ m.txCap.toNat :=
  List.countP_le_length.trans (List.length_take_le _ _)

/-! ### Every effect keeps the clauses -/

namespace State.Consistent
variable {s : State}

theorem setSyncAbort (h : s.Consistent) (b : Bool) : (s.withMod (s.mod.setSyncAbort b)).Consistent := { h with }

/-- A transmit row in use is written, with its count and its ghost bit. -/
theorem writeTxRow (h : s.Consistent) {i : Nat} {r : TxSlot} {n : BitVec 16} {l : List SlotIndex}
    (hi : i < s.mod.txCap.toNat) (hrow : r.Allowed s.params)
    (hcount : CountFits s.params (s.mod.pendingTransmitCount.toNat + r.full.toNat)
      (n.toNat + (s.mod.txRow i).full.toNat))
    (hkeep : s.txRegistered ⊆ l)
    (hqueued : s.params.usage = .refuse → r.full = true → ∀ idx : SlotIndex, idx.toNat = i → idx ∈ l) :
    ((s.withMod ((s.mod.setTxRow i r).setCount n)).withRegistered l).Consistent := by
  obtain ⟨hrxlen, htxlen, hrxcap, htxcap⟩ := h.tablesFit
  have hlen : i < s.mod.tx.length := by omega
  have hfull := numFull_setTxRow r hi hlen
  obtain ⟨hcovers, hexact⟩ := h.countFits
  obtain ⟨hcovers', hexact'⟩ := hcount
  refine { h with
    tablesFit := ⟨hrxlen, by simpa using htxlen, hrxcap, htxcap⟩
    unusedClear := ⟨h.unusedClear.1, ?_⟩
    txAllowed := ?_
    countFits := ⟨?_, fun hu => ?_⟩
    queuedRegistered := fun hu idx hidx => ?_ }
  · simpa [List.drop_set_of_lt hi] using h.unusedClear.2
  · intro r' hr'
    rcases List.mem_or_eq_of_mem_set hr' with hold | rfl
    · exact h.txAllowed r' hold
    · exact hrow
  · show numFull (s.mod.setTxRow i r) ≤ n.toNat
    omega
  · show numFull (s.mod.setTxRow i r) = n.toNat
    have := hexact hu
    have := hexact' hu
    omega
  · replace hidx : ((s.mod.setTxRow i r).txRow idx.toNat).full = true := hidx
    rw [ModuleState.txRow_setTxRow] at hidx
    split at hidx
    next hii => exact hqueued hu hidx idx hii.1.symm
    · exact hkeep (h.queuedRegistered hu idx hidx)

theorem setRxRow (h : s.Consistent) {i : Nat} {r : RxSlot} (hi : i < s.mod.rxCap.toNat) (hr : r.Sound) :
    (s.withMod (s.mod.setRxRow i r)).Consistent := by
  obtain ⟨hrxlen, hfit⟩ := h.tablesFit
  refine { h with
    tablesFit := ⟨by simpa using hrxlen, hfit⟩
    unusedClear := ⟨?_, h.unusedClear.2⟩
    rxSound := ?_ }
  · simpa [List.drop_set_of_lt hi] using h.unusedClear.1
  · intro r' hr'
    rcases List.mem_or_eq_of_mem_set hr' with hold | rfl
    · exact h.rxSound r' hold
    · exact hr

/-- The queued sync rows are cleared and taken off the count. -/
theorem abort (h : s.Consistent) :
    (s.withMod ((s.mod.setTx (abortRows s.mod)).setCount
      (s.mod.pendingTransmitCount - BitVec.ofNat 16 (numQueuedSync s.mod)))).Consistent := by
  obtain ⟨hrxlen, htxlen, hcaps⟩ := h.tablesFit
  obtain ⟨hcovers, hexact⟩ := h.countFits
  have hfull := numFull_setTx_abortRows s.mod
  have hcount := toNat_sub_ofNat (k := numQueuedSync s.mod) (c := s.mod.pendingTransmitCount) (by omega)
  refine { h with
    tablesFit := ⟨hrxlen, by simpa using htxlen, hcaps⟩
    unusedClear := ⟨h.unusedClear.1, by simpa [drop_abortRows] using h.unusedClear.2⟩
    txAllowed := forall_mem_abortRows h.txAllowed fun _ => abortRow_allowed
    countFits := ⟨?_, fun hu => ?_⟩
    queuedRegistered := fun hu idx hidx => h.queuedRegistered hu idx ?_ }
  · show numFull (s.mod.setTx (abortRows s.mod)) ≤ (s.mod.pendingTransmitCount - _).toNat
    omega
  · show numFull (s.mod.setTx (abortRows s.mod)) = (s.mod.pendingTransmitCount - _).toNat
    have := hexact hu
    omega
  · replace hidx : ((s.mod.setTx (abortRows s.mod)).txRow idx.toNat).full = true := hidx
    rw [txRow_setTx_abortRows] at hidx
    split at hidx
    · rw [abortRow_full, Bool.and_eq_true] at hidx
      exact hidx.1
    · exact hidx

/-- R151: cleared tables of the physical depth and a count of 0. -/
theorem afterInit {txs rxs : Bool} {txcap rxcap : BitVec 16} (r : Rate)
    (h : initArgumentsOk s.params txs rxs txcap rxcap = true) :
    ((s.withMod (s.mod.afterInit s.params r txcap rxcap)).withRegistered []).Consistent := by
  simp only [initArgumentsOk, Bool.and_eq_true, decide_eq_true_eq] at h
  obtain ⟨⟨-, hrx⟩, htx⟩ := h
  have hrxMax := s.params.rxMax.isLt
  have htxMax := s.params.txMax.isLt
  have hfull (i : Nat) : ((s.mod.afterInit s.params r txcap rxcap).txRow i).full = false := by
    simp [ModuleState.txRow, TxSlot.zero]
  have hnone : numFull (s.mod.afterInit s.params r txcap rxcap) = 0 :=
    List.countP_eq_zero.mpr fun row hrow => by
      rw [List.eq_of_mem_replicate (List.mem_of_mem_take hrow)]
      nofun
  have hcap {c : BitVec 16} {n : Nat} (hc : c.toNat ≤ n) (hn : n < 257) : (c.setWidth 9).toNat ≤ n := by
    rw [BitVec.toNat_setWidth]; omega
  exact {
    tablesFit := ⟨List.length_replicate, List.length_replicate, hcap hrx hrxMax, hcap htx htxMax⟩
    unusedClear := ⟨fun row hrow => List.eq_of_mem_replicate (List.mem_of_mem_drop hrow),
      fun row hrow => List.eq_of_mem_replicate (List.mem_of_mem_drop hrow)⟩
    rxSound := fun row hrow => List.eq_of_mem_replicate hrow ▸ RxSlot.sound_zero
    txAllowed := fun row hrow => List.eq_of_mem_replicate hrow ▸ TxSlot.allowed_zero _
    filteringOff := rfl
    passiveConfirmed := nofun
    countFits := ⟨hnone.le, fun _ => hnone⟩
    queuedRegistered := fun _ idx hidx => absurd hidx (by simp [hfull]) }

end State.Consistent

/-- R144: CHECKERR sets the passive bit only after the first confirmation. -/
theorem sent_of_passiveAfter {sent active : Bool} {e : Word} (h : active = true → sent = true) :
    passiveAfter sent active e = true → sent = true := by
  unfold passiveAfter
  split
  · exact h
  · split
    · rw [Bool.or_eq_true]
      exact fun hp => hp.elim id h
    · nofun

theorem Effect.consistent {s : State} {i : Instr} {m : ModuleState} {l : List SlotIndex} (h : Effect s i m l)
    (hs : s.mod.initialised = true → s.Consistent) (hm : m.initialised = true) :
    ((s.withMod m).withRegistered l).Consistent := by
  cases h with
  | nothing => exact hs hm
  | initDone r hargs => exact .afterInit r hargs
  | initFailed hfailed => rw [hfailed] at hm; contradiction
  | receiveRegistered hidx hctx hcb =>
    exact (hs hm).setRxRow hidx
      ⟨encodedOk_encId _ _, encodedOk_encMask _ _ _, fun hnull => (hnull.elim hcb hctx).elim⟩
  | @transmitRegistered sync idx rtr dlc id hidx hfull hdlc =>
    refine (hs hm).writeTxRow (n := s.mod.pendingTransmitCount) hidx ⟨encodedOk_encId _ _, fun hu => ?_⟩
      ⟨Nat.le_add_right _ _, fun hu => ?_⟩ (fun _ => List.mem_insert_of_mem) (fun _ => nofun)
    · simpa [hu, dlcAboveEight] using hdlc
    · simpa [hu] using hfull
  | payloadWritten hidx =>
    obtain ⟨hsound, hlength⟩ := ModuleState.txRow_allowed (hs hm).txAllowed _
    exact (hs hm).writeTxRow (n := s.mod.pendingTransmitCount) hidx ⟨hsound, hlength⟩ ⟨le_rfl, fun _ => rfl⟩
      (List.Subset.refl _) fun hu hfull idx hi => (hs hm).queuedRegistered hu idx (hi ▸ hfull)
  | @queued idx hidx hreg hfull hcount =>
    obtain ⟨hsound, hlength⟩ := ModuleState.txRow_allowed (hs hm).txAllowed _
    refine (hs hm).writeTxRow hidx ⟨hsound, hlength⟩ ?_ (List.Subset.refl _) fun hu _ idx' hi => ?_
    · rw [toNat_add_one hcount, hfull]
      exact ⟨le_rfl, fun _ => rfl⟩
    · obtain rfl := BitVec.eq_of_toNat_eq hi
      simpa [hu] using hreg
  | @drained i hi hcount =>
    obtain ⟨hcap, -, hfull, -⟩ := firstFull_eq_some hi
    obtain ⟨hsound, hlength⟩ := ModuleState.txRow_allowed (hs hm).txAllowed _
    have hprev := toNat_sub_one hcount
    have hcount' : CountFits s.params (s.mod.pendingTransmitCount.toNat + 0)
        ((s.mod.pendingTransmitCount - 1).toNat + (s.mod.txRow i).full.toNat) := by
      rw [hfull]
      exact ⟨hprev.ge, fun _ => hprev.symm⟩
    have written := (hs hm).writeTxRow (r := { s.mod.txRow i with full := false }) hcap ⟨hsound, hlength⟩ hcount'
      (List.Subset.refl _) fun _ => nofun
    exact written.setSyncAbort _
  | aborted hcount => exact (hs hm).abort.setSyncAbort false
  | errorsNoted e => exact { hs hm with passiveConfirmed := sent_of_passiveAfter (hs hm).passiveConfirmed }
  | confirmed => exact { hs hm with passiveConfirmed := fun _ => rfl }
  | normalSet | disabled | sent | buffered | dispatched | returned => exact { hs hm with }

/-! ### The invariant through operations and steps -/

/-- All that the invariant speaks of is as in `s`. -/
structure State.SameBlock (s t : State) : Prop where
  mod : t.mod = s.mod
  params : t.params = s.params
  txRegistered : t.txRegistered = s.txRegistered

theorem State.Inv.of_sameBlock {s t : State} (h : s.Inv) (hst : s.SameBlock t) : t.Inv := by
  unfold State.Inv TablesFit UnusedRowsClear CountCovers CountExact LengthsOk QueuedRegistered
  rw [hst.mod, hst.params, hst.txRegistered]
  exact h

theorem exec_params {i : Instr} {s t : State} (h : exec i s = .next t) : t.params = s.params :=
  ((State.Extends.refl s).exec i t h).params

theorem exec_inv {i : Instr} {s t : State} (hs : s.Inv) (h : exec i s = .next t) : t.Inv := by
  have effect : Effect s i t.mod t.txRegistered := exec_affected i s t h
  have hinv : ((s.withMod t.mod).withRegistered t.txRegistered).Inv :=
    State.inv_iff.mpr (effect.consistent (State.inv_iff.mp hs))
  exact hinv.of_sameBlock ⟨rfl, exec_params (s := s) h, rfl⟩

theorem sameBlock_setQueue {s u : State} (hu : u = s ∨ u = s.draw) (p : Port) (ws : List Word) :
    s.SameBlock (u.setQueue p ws) := by
  rcases hu with rfl | rfl <;> cases p <;> exact ⟨rfl, rfl, rfl⟩

/-- A step leaves the block, or an operation runs in a state with the same block. -/
theorem step_block_cases {s t : State} (h : step s = .next t) :
    s.SameBlock t ∨ ∃ i u, s.SameBlock u ∧ exec i u = .next t := by
  rcases step_cases s with hidle | ⟨p, u, i, rest, hu, -, hexec⟩ | ⟨p, u, e, hu, -, hillegal⟩
  · obtain rfl : s = t := by simpa [hidle] using h
    exact .inl ⟨rfl, rfl, rfl⟩
  · exact .inr ⟨i, _, sameBlock_setQueue hu p rest, hexec ▸ h⟩
  · rw [hillegal] at h
    have hblock := sameBlock_setQueue hu p (wordsAfter (s.queue p))
    cases p <;> cases h <;> exact .inl ⟨hblock.mod, hblock.params, hblock.txRegistered⟩

theorem step_params {s t : State} (h : step s = .next t) : t.params = s.params := by
  rcases step_block_cases h with hsame | ⟨i, u, hsame, hexec⟩
  · exact hsame.params
  · exact (exec_params hexec).trans hsame.params

/-- Settles O51: every effect of an operation keeps the clauses of the invariant, and the fetch touches none of their state. -/
theorem everyStepKeepsTheInvariant : Obligations.EveryStepKeepsTheInvariant := by
  intro s t hs h
  rcases step_block_cases h with hsame | ⟨i, u, hsame, hexec⟩
  · exact hs.of_sameBlock hsame
  · exact exec_inv (hs.of_sameBlock hsame) hexec

/-- Settles O53: the invariant after the step says that the count is exact, and no more slots are full than are in use. -/
theorem countEqualsFullSlotsAfterEveryStep : Obligations.CountEqualsFullSlotsAfterEveryStep := by
  intro s t hs husage h hinit
  have hafter := State.inv_iff.mp (everyStepKeepsTheInvariant s t hs h) hinit
  have hexact : numFull t.mod = t.mod.pendingTransmitCount.toNat :=
    hafter.countFits.exact ((step_params h).symm ▸ husage)
  exact ⟨hexact, hexact ▸ numFull_le_txCap t.mod⟩

/-! ### DRAIN and ABORTSYNC complete -/

theorem dequeueWritten_completes {s : State} (h : s.mod.pendingTransmitCount ≠ 0) (i : Nat) :
    ∃ t, dequeueWritten i s = .next t := by
  rcases dequeueWritten_cases s i with ⟨hzero, -⟩ | ⟨-, t, ht, -⟩
  · exact absurd hzero h
  · exact ⟨t, ht⟩

theorem execDrain_completes {s : State} (hcovers : CountCovers s) (hinit : s.mod.initialised = true) :
    ∃ t, execDrain s = .next t := by
  rw [execDrain, command_of_initialised hinit]
  split
  · split
    · exact ⟨_, rfl⟩
    next i hi =>
      have hcount : s.mod.pendingTransmitCount ≠ 0 := fun hzero => by
        have hpos : 0 < s.mod.pendingTransmitCount.toNat := (numFull_pos hi).trans_le hcovers
        simp [hzero] at hpos
      unfold drainSlot
      split
      · exact dequeueWritten_completes (by simpa using hcount) i
      · exact ⟨_, rfl⟩
  · exact ⟨_, rfl⟩

theorem execAbortsync_completes {s : State} (hcovers : CountCovers s) (hinit : s.mod.initialised = true) :
    ∃ t, execAbortsync s = .next t := by
  rw [execAbortsync, command_of_initialised hinit,
    if_neg (Nat.not_lt.mpr ((numQueuedSync_le_numFull s.mod).trans hcovers))]
  exact ⟨_, rfl⟩

/-- Settles O54: the count covers the full slots, so it is above 0 where DRAIN finds one, and covers those ABORTSYNC takes. -/
theorem drainAndAbortsyncAlwaysComplete : Obligations.DrainAndAbortsyncAlwaysComplete := by
  intro s hs hinit
  have hcovers := (State.inv_iff.mp hs hinit).countFits.covers
  exact ⟨execDrain_completes hcovers hinit, execAbortsync_completes hcovers hinit⟩

/-- Settles O52: the invariant speaks of initialised states only, and power-on is none. -/
theorem powerOnMeetsTheInvariant : Obligations.PowerOnMeetsTheInvariant :=
  ⟨nofun, rfl, rfl, rfl, rfl⟩

end Sys2Proof.Machine
end

section
/-! PROOFS of the statements of spec/10_state.md, third part: what is never read. `normalModeActive` (R36): every operation
commutes with a change of it, or overwrites it. The Module State before INIT (R45): only INIT does more than answer, and it reads
the parameters only. And the refusal of REGRX under hardware filtering (R37). -/

namespace Sys2Proof.Machine

/-! ### Requests to HTI do not read the Module State -/

section
variable (s : State) (m : ModuleState)

theorem State.askEnable_withMod : (s.withMod m).askEnable = s.askEnable.withMod m := by
  obtain ⟨_, _, _, _, _, ⟨enable, _, _, _⟩, _, _⟩ := s
  cases enable <;> rfl

theorem State.askTxFree_withMod : (s.withMod m).askTxFree = s.askTxFree.withMod m := by
  obtain ⟨_, _, _, _, _, ⟨_, txFree, _, _⟩, _, _⟩ := s
  cases txFree <;> rfl

theorem State.askWrite_withMod (f : Frame) : (s.withMod m).askWrite f = (s.askWrite f).withMod m := by
  obtain ⟨_, _, _, _, _, ⟨_, _, write, _⟩, _, _⟩ := s
  cases write <;> rfl

theorem State.askErrors_withMod : (s.withMod m).askErrors = s.askErrors.withMod m := by
  obtain ⟨_, _, _, _, _, ⟨_, _, _, errors⟩, _, _⟩ := s
  cases errors <;> rfl

theorem State.cycleChannel_withMod : (s.withMod m).cycleChannel = s.cycleChannel.withMod m :=
  askEnable_withMod (s.emit .htiDisable) m

end

/-! ### Operations that carry a change of `normalModeActive` through -/

/-- The state with another value of `normalModeActive`. -/
def State.withNormal (s : State) (b : Bool) : State := s.withMod (s.mod.setNormal b)

section
variable (s : State) (b : Bool)

theorem State.askTxFree_withNormal : (s.withNormal b).askTxFree = s.askTxFree.withNormal b := by
  simp [withNormal, askTxFree_withMod]

theorem State.askWrite_withNormal (f : Frame) : (s.withNormal b).askWrite f = (s.askWrite f).withNormal b := by
  simp [withNormal, askWrite_withMod]

theorem State.askErrors_withNormal : (s.withNormal b).askErrors = s.askErrors.withNormal b := by
  simp [withNormal, askErrors_withMod]

theorem noteErrors_withNormal (e : Word) : noteErrors e (s.withNormal b) = (noteErrors e s).withNormal b := by
  by_cases he : e = s.mod.lastErrorBitmap
  · rw [noteErrors_unchanged s he]
    exact noteErrors_unchanged _ he
  · rw [noteErrors_changed s he]
    exact noteErrors_changed _ he

theorem State.dispatch_withNormal (r : RxSlot) : (s.withNormal b).dispatch r = (s.dispatch r).withNormal b := by
  rw [dispatch_eq, dispatch_eq]
  split <;> rfl

end

/-- Where outcome `o` is a next state, so is `o'`, and the two states are the same but for `normalModeActive`. -/
def AgreesButNormal (o o' : Host.Outcome State Fault Refusal) : Prop :=
  ∀ t, o = .next t → ∃ b, o' = .next (t.withNormal b)

namespace AgreesButNormal
variable {s : State} {body body' other other' : Host.Outcome State Fault Refusal} {b : Bool}

theorem next (b : Bool) : AgreesButNormal (.next s) (.next (s.withNormal b)) := by
  rintro _ ⟨⟩
  exact ⟨b, rfl⟩

theorem refl (o : Host.Outcome State Fault Refusal) : AgreesButNormal o o :=
  fun t h => ⟨t.mod.normalModeActive, h⟩

theorem ret (c : Result) : AgreesButNormal (Machine.ret c s) (Machine.ret c (s.withNormal b)) := next b

theorem ite {c : Prop} [Decidable c] (hpos : AgreesButNormal body body') (hneg : AgreesButNormal other other') :
    AgreesButNormal (if c then body else other) (if c then body' else other') := by
  split
  · exact hpos
  · exact hneg

/-- A result placed after an optional output. -/
theorem ret_ite {p : Prop} [Decidable p] {t : State} (c : Result) :
    AgreesButNormal (Machine.ret c (if p then s else t))
      (Machine.ret c (if p then s.withNormal b else t.withNormal b)) := by
  split <;> exact next b

theorem command (h : AgreesButNormal body body') :
    AgreesButNormal (Machine.command s body) (Machine.command (s.withNormal b) body') := ite h (ret _)

theorem event (h : AgreesButNormal body body') :
    AgreesButNormal (Machine.event s body) (Machine.event (s.withNormal b) body') := ite h (next b)

theorem txCommand {idx : SlotIndex} (h : AgreesButNormal body body') :
    AgreesButNormal (Machine.txCommand idx s body) (Machine.txCommand idx (s.withNormal b) body') :=
  command (ite h (ret _))

theorem refuseIf {c : Bool} {why : Refusal} (h : AgreesButNormal body body') :
    AgreesButNormal (Machine.refuseIf c why body) (Machine.refuseIf c why body') := ite (refl _) h

theorem refuseWhen {c : Bool} {why : Refusal} (h : AgreesButNormal body body') :
    AgreesButNormal (Machine.refuseWhen s c why body) (Machine.refuseWhen (s.withNormal b) c why body') := refuseIf h

variable (s b)

theorem enqueue (i : Nat) : AgreesButNormal (Machine.enqueue i s) (Machine.enqueue i (s.withNormal b)) :=
  ite (refl _) (next b)

theorem dequeueWritten (i : Nat) :
    AgreesButNormal (Machine.dequeueWritten i s) (Machine.dequeueWritten i (s.withNormal b)) := ite (refl _) (next b)

theorem dispatch (r : RxSlot) : AgreesButNormal (.next (s.dispatch r)) (.next ((s.withNormal b).dispatch r)) := by
  rw [State.dispatch_withNormal]
  exact next b

/-- INIT writes the flag, whatever it was. -/
theorem execInit (txs rxs : Bool) (rate txcap rxcap : BitVec 16) :
    AgreesButNormal (Machine.execInit txs rxs rate txcap rxcap s)
      (Machine.execInit txs rxs rate txcap rxcap (s.withNormal b)) := refl _

/-- SETNORMAL writes the flag, whatever it was. -/
theorem execSetnormal : AgreesButNormal (Machine.execSetnormal s) (Machine.execSetnormal (s.withNormal b)) := by
  unfold Machine.execSetnormal
  rw [State.withNormal, State.askEnable_withMod]
  exact command (refl _)

/-- DISABLE clears the flag, whatever it was. -/
theorem execDisable : AgreesButNormal (Machine.execDisable s) (Machine.execDisable (s.withNormal b)) := by
  unfold Machine.execDisable
  rw [State.withNormal, State.cycleChannel_withMod]
  exact command (refl _)

theorem execRegrx (idx : SlotIndex) (rtr : Bool) (id mask : CanId) (ctx cb : Word) :
    AgreesButNormal (Machine.execRegrx idx rtr id mask ctx cb s)
      (Machine.execRegrx idx rtr id mask ctx cb (s.withNormal b)) := command (ite (refuseIf (next b)) (ret _))

theorem execRegtx (sync : Bool) (idx : SlotIndex) (rtr : Bool) (dlc : BitVec 4) (id : CanId) :
    AgreesButNormal (Machine.execRegtx sync idx rtr dlc id s)
      (Machine.execRegtx sync idx rtr dlc id (s.withNormal b)) := txCommand (refuseWhen (refuseWhen (next b)))

theorem execTxdata (idx : SlotIndex) (data : Payload) :
    AgreesButNormal (Machine.execTxdata idx data s) (Machine.execTxdata idx data (s.withNormal b)) :=
  txCommand (next b)

theorem sendOverflow (r : TxSlot) :
    AgreesButNormal (Machine.sendOverflow r s) (Machine.sendOverflow r (s.withNormal b)) := ret_ite _

theorem sendDirect (r : TxSlot) :
    AgreesButNormal (Machine.sendDirect r s) (Machine.sendDirect r (s.withNormal b)) := by
  unfold Machine.sendDirect
  rw [State.askWrite_withNormal]
  exact ite (next b) (next b)

theorem execSend (idx : SlotIndex) :
    AgreesButNormal (Machine.execSend idx s) (Machine.execSend idx (s.withNormal b)) := by
  unfold Machine.execSend
  rw [State.askTxFree_withNormal]
  exact txCommand (refuseWhen (ite (sendOverflow s b _) (ite (sendDirect s.askTxFree b _) (enqueue s.askTxFree b _))))

theorem drainSlot (i : Nat) : AgreesButNormal (Machine.drainSlot i s) (Machine.drainSlot i (s.withNormal b)) := by
  unfold Machine.drainSlot
  rw [State.askWrite_withNormal]
  exact ite (dequeueWritten (s.askWrite _) b i) (next b)

theorem execDrain : AgreesButNormal (Machine.execDrain s) (Machine.execDrain (s.withNormal b)) := by
  refine command (ite ?_ (ret _))
  rw [show firstFull (s.withNormal b).mod = firstFull s.mod from rfl]
  cases firstFull s.mod with
  | none => exact ret _
  | some i => exact drainSlot s b i

theorem execAbortsync : AgreesButNormal (Machine.execAbortsync s) (Machine.execAbortsync (s.withNormal b)) :=
  command (ite (refl _) (ret_ite _))

theorem execCheckerr : AgreesButNormal (Machine.execCheckerr s) (Machine.execCheckerr (s.withNormal b)) := by
  unfold Machine.execCheckerr
  rw [State.askErrors_withNormal, noteErrors_withNormal]
  exact command (ret _)

theorem execRxframe (rtr : Bool) (dlc : BitVec 4) (id : CanId) (data : Payload) :
    AgreesButNormal (Machine.execRxframe rtr dlc id data s) (Machine.execRxframe rtr dlc id data (s.withNormal b)) := by
  refine event (refuseIf ?_)
  rw [show firstMatch (s.withNormal b).params.rxNullCb (s.withNormal b).mod (encId id rtr) =
    firstMatch s.params.rxNullCb s.mod (encId id rtr) from rfl]
  cases firstMatch s.params.rxNullCb s.mod (encId id rtr) with
  | none => exact next b
  | some i => exact dispatch (s.withMod _) b _

theorem execTxconf : AgreesButNormal (Machine.execTxconf s) (Machine.execTxconf (s.withNormal b)) := event (next b)

theorem execCbret : AgreesButNormal (Machine.execCbret s) (Machine.execCbret (s.withNormal b)) := event (next b)

theorem exec (i : Instr) : AgreesButNormal (Machine.exec i s) (Machine.exec i (s.withNormal b)) := by
  cases i with
  | init txs rxs rate txcap rxcap => exact execInit s b txs rxs rate txcap rxcap
  | setnormal => exact execSetnormal s b
  | disable => exact execDisable s b
  | regrx idx rtr id mask ctx cb => exact execRegrx s b idx rtr id mask ctx cb
  | regtx sync idx rtr dlc id => exact execRegtx s b sync idx rtr dlc id
  | txdata idx data => exact execTxdata s b idx data
  | send idx => exact execSend s b idx
  | drain => exact execDrain s b
  | abortsync => exact execAbortsync s b
  | checkerr => exact execCheckerr s b
  | rxframe rtr dlc id data => exact execRxframe s b rtr dlc id data
  | txconf => exact execTxconf s b
  | cbret => exact execCbret s b

end AgreesButNormal

/-- Settles O49: every operation carries a change of `normalModeActive` through to its next state, or overwrites the flag. -/
theorem normalModeIsNeverRead : Obligations.NormalModeIsNeverRead := by
  intro i s t b h
  obtain ⟨b', h'⟩ := AgreesButNormal.exec s b i t h
  exact ⟨t.withNormal b', h', rfl, rfl, rfl, rfl, rfl, rfl, rfl, rfl⟩

/-! ### Before INIT -/

/-- R173: before INIT every other operation is treated as an illegal one of its port. -/
theorem exec_of_uninitialised {s : State} (hs : s.mod.initialised = false) {i : Instr} (hi : ¬ IsInit i) :
    exec i s = illegalOperation i.port s := by
  cases i with
  | init => exact absurd ⟨_, _, _, _, _, rfl⟩ hi
  | rxframe | txconf | cbret => exact event_of_uninitialised hs _
  | _ => exact command_of_uninitialised hs _

/-- Both outcomes are next states; the two differ in the Module State only, not in `initialised`, and where that is 1 in
`rxBuf` only. -/
def AgreesButUnspecified (o o' : Host.Outcome State Fault Refusal) : Prop :=
  ∃ (t : State) (m : ModuleState), o = .next t ∧ o' = .next (t.withMod m) ∧ m.initialised = t.mod.initialised ∧
    (t.mod.initialised = true → { m with rxBuf := t.mod.rxBuf } = t.mod)

theorem failedInit_agrees (c : Result) (s : State) (m : ModuleState) :
    AgreesButUnspecified (failedInit c s) (failedInit c (s.withMod m)) := ⟨_, _, rfl, rfl, rfl, nofun⟩

theorem execInit_agrees (txs rxs : Bool) (rate txcap rxcap : BitVec 16) (s : State) (m : ModuleState) :
    AgreesButUnspecified (execInit txs rxs rate txcap rxcap s) (execInit txs rxs rate txcap rxcap (s.withMod m)) := by
  unfold execInit
  rw [State.withMod_params]
  split
  · split
    · exact failedInit_agrees _ s m
    next r _ =>
      have hcycle (m' : ModuleState) :
          ((s.withMod m').withRegistered []).cycleChannel = (s.withRegistered []).cycleChannel.withMod m' :=
        State.cycleChannel_withMod (s.withRegistered []) m'
      exact ⟨_, m.afterInit s.params r txcap rxcap, congrArg (ret .ok) (hcycle _), congrArg (ret .ok) (hcycle _), rfl,
        fun _ => rfl⟩
  · exact failedInit_agrees _ s m

theorem illegalOperation_agrees (p : Port) {s : State} {m : ModuleState} (hs : s.mod.initialised = false)
    (hm : m.initialised = false) :
    AgreesButUnspecified (illegalOperation p s) (illegalOperation p (s.withMod m)) := by
  have hinit : m.initialised = s.mod.initialised := hm.trans hs.symm
  have hmod (h : s.mod.initialised = true) : { m with rxBuf := s.mod.rxBuf } = s.mod := by rw [hs] at h; contradiction
  cases p with
  | command => exact ⟨s.emit _, m, rfl, rfl, hinit, hmod⟩
  | event => exact ⟨s, m, rfl, rfl, hinit, hmod⟩

/-- Settles O50: INIT reads no part of the Module State but the kept `rxBuf`, and every other operation is treated as an
illegal one. -/
theorem unspecifiedPowerOnStateIsNeverRead : Obligations.UnspecifiedPowerOnStateIsNeverRead := by
  intro i s m hs hm
  have agrees : AgreesButUnspecified (exec i s) (exec i (s.withMod m)) := by
    by_cases hi : IsInit i
    · obtain ⟨txs, rxs, rate, txcap, rxcap, rfl⟩ := hi
      exact execInit_agrees txs rxs rate txcap rxcap s m
    · rw [exec_of_uninitialised hs hi, exec_of_uninitialised (s := s.withMod m) hm hi]
      exact illegalOperation_agrees i.port hs hm
  obtain ⟨t, m', ht, hu, hinit, hmod⟩ := agrees
  exact ⟨t, t.withMod m', ht, hu, rfl, rfl, rfl, ⟨rfl, rfl, rfl, rfl⟩, hinit, hmod⟩

/-- Settles O21: the arguments are legal, so what is left is the refusal. -/
theorem regrxWithHardwareFiltering : Obligations.RegrxWithHardwareFiltering := by
  intro s idx rtr id mask ctx cb hinit hidx hctx hcb hfilter
  show execRegrx idx rtr id mask ctx cb s = _
  rw [execRegrx, command_of_initialised hinit, if_pos ⟨hidx, hctx, hcb⟩, hfilter, refuseIf_true]

end Sys2Proof.Machine
end

section
/-! PROOFS of the statements of spec/20_memory.md: the range check of a slot index (R54), and which operation writes which
register (R55), read off the list of effects. -/

namespace Sys2Proof.Machine

/-! ### An index at or beyond the capacity (R54) -/

section
variable {s : State} {idx : SlotIndex}

theorem txCommand_of_beyond (h : s.mod.txCap.toNat ≤ idx.toNat) (body : Host.Outcome State Fault Refusal) :
    txCommand idx s body = ret .illegalArgument s := by
  rcases txCommand_cases idx s body with ⟨-, hlt, -⟩ | ⟨-, hbad⟩
  · exact absurd hlt (Nat.not_lt.mpr h)
  · exact hbad

/-- Uninitialised or not, the answer is the same. -/
theorem command_ret_illegalArgument (s : State) :
    command s (ret .illegalArgument s) = ret .illegalArgument s := ite_self _

theorem execRegrx_of_beyond (h : s.mod.rxCap.toNat ≤ idx.toNat) (rtr : Bool) (id mask : CanId) (ctx cb : Word) :
    execRegrx idx rtr id mask ctx cb s = ret .illegalArgument s := by
  rw [execRegrx, if_neg fun ⟨hidx, _⟩ => absurd hidx (Nat.not_lt.mpr h), command_ret_illegalArgument]

end

/-- Settles O13: REGRX fails its own range check, and the three transmit commands fail the one they share. -/
theorem indexBeyondCapacityFails : Obligations.IndexBeyondCapacityFails :=
  ⟨fun _ _ rtr id mask ctx cb h => execRegrx_of_beyond h rtr id mask ctx cb,
    fun _ _ h => ⟨fun _ _ _ _ => txCommand_of_beyond h _, fun _ => txCommand_of_beyond h _, txCommand_of_beyond h _⟩⟩

/-! ### Which operation writes which register (R55)

Each register is as before in every effect but those of the operations that write it. -/

namespace Effect
variable {s : State} {i : Instr} {m : ModuleState} {l : List SlotIndex}

theorem keeps_configuration (h : Effect s i m l) (hinit : ¬ IsInit i) :
    m.initialised = s.mod.initialised ∧ m.rxCap = s.mod.rxCap ∧ m.txCap = s.mod.txCap ∧
      m.prescaler = s.mod.prescaler ∧ m.hardwareFilteringEnabled = s.mod.hardwareFilteringEnabled := by
  cases h with
  | initDone | initFailed => exact absurd ⟨_, _, _, _, _, rfl⟩ hinit
  | _ => exact ⟨rfl, rfl, rfl, rfl, rfl⟩

theorem keeps_pendingTransmitCount (h : Effect s i m l) (hinit : ¬ IsInit i) (hsend : ∀ idx, i ≠ .send idx)
    (hdrain : i ≠ .drain) (habort : i ≠ .abortsync) : m.pendingTransmitCount = s.mod.pendingTransmitCount := by
  cases h with
  | initDone | initFailed => exact absurd ⟨_, _, _, _, _, rfl⟩ hinit
  | queued => exact absurd rfl (hsend _)
  | drained => exact absurd rfl hdrain
  | aborted => exact absurd rfl habort
  | _ => rfl

theorem keeps_syncAbortPending (h : Effect s i m l) (hinit : ¬ IsInit i) (hsend : ∀ idx, i ≠ .send idx)
    (hdrain : i ≠ .drain) (habort : i ≠ .abortsync) (hconf : i ≠ .txconf) :
    m.syncAbortPending = s.mod.syncAbortPending := by
  cases h with
  | initDone | initFailed => exact absurd ⟨_, _, _, _, _, rfl⟩ hinit
  | sent => exact absurd rfl (hsend _)
  | drained => exact absurd rfl hdrain
  | aborted => exact absurd rfl habort
  | confirmed => exact absurd rfl hconf
  | _ => rfl

theorem keeps_firstFrameSent (h : Effect s i m l) (hinit : ¬ IsInit i) (hconf : i ≠ .txconf) :
    m.firstFrameSent = s.mod.firstFrameSent := by
  cases h with
  | initDone | initFailed => exact absurd ⟨_, _, _, _, _, rfl⟩ hinit
  | confirmed => exact absurd rfl hconf
  | _ => rfl

theorem keeps_normalModeActive (h : Effect s i m l) (hinit : ¬ IsInit i) (hnormal : i ≠ .setnormal)
    (hdisable : i ≠ .disable) : m.normalModeActive = s.mod.normalModeActive := by
  cases h with
  | initDone | initFailed => exact absurd ⟨_, _, _, _, _, rfl⟩ hinit
  | normalSet => exact absurd rfl hnormal
  | disabled => exact absurd rfl hdisable
  | _ => rfl

theorem keeps_errorRegisters (h : Effect s i m l) (hinit : ¬ IsInit i) (hcheck : i ≠ .checkerr) :
    m.lastErrorBitmap = s.mod.lastErrorBitmap ∧ m.passiveActive = s.mod.passiveActive := by
  cases h with
  | initDone | initFailed => exact absurd ⟨_, _, _, _, _, rfl⟩ hinit
  | errorsNoted => exact absurd rfl hcheck
  | _ => exact ⟨rfl, rfl⟩

theorem keeps_rxBuf (h : Effect s i m l) (hinit : ¬ IsInit i)
    (hframe : ∀ rtr dlc id data, i ≠ .rxframe rtr dlc id data) : m.rxBuf = s.mod.rxBuf := by
  cases h with
  | initDone | initFailed => exact absurd ⟨_, _, _, _, _, rfl⟩ hinit
  | buffered | dispatched => exact absurd rfl (hframe _ _ _ _)
  | _ => rfl

theorem keeps_rxBusy (h : Effect s i m l) (hinit : ¬ IsInit i)
    (hframe : ∀ rtr dlc id data, i ≠ .rxframe rtr dlc id data) (hcbret : i ≠ .cbret) :
    m.rxBusy = s.mod.rxBusy := by
  cases h with
  | initDone | initFailed => exact absurd ⟨_, _, _, _, _, rfl⟩ hinit
  | dispatched => exact absurd rfl (hframe _ _ _ _)
  | returned => exact absurd rfl hcbret
  | _ => rfl

end Effect

/-- Settles O46: register by register, only the effects of its writers change it. -/
theorem registersHaveTheirWriters : Obligations.RegistersHaveTheirWriters := by
  intro i s t h hinit
  have effect : Effect s i t.mod t.txRegistered := exec_affected i s t h
  obtain ⟨hinitialised, hrxCap, htxCap, hprescaler, hfiltering⟩ := effect.keeps_configuration hinit
  exact ⟨hinitialised, hrxCap, htxCap, hprescaler, hfiltering,
    fun hsend hdrain habort => ⟨effect.keeps_pendingTransmitCount hinit hsend hdrain habort,
      effect.keeps_syncAbortPending hinit hsend hdrain habort⟩,
    effect.keeps_firstFrameSent hinit,
    effect.keeps_normalModeActive hinit,
    effect.keeps_errorRegisters hinit,
    fun hframe => ⟨effect.keeps_rxBuf hinit hframe, effect.keeps_rxBusy hinit hframe⟩⟩

end Sys2Proof.Machine
end

section
/-! PROOFS of the statements of spec/30_encoding.md, first part: the decoder and the encoder are inverse to each other (R73 to
R82, R85). The operands stand in fields of the words that do not overlap; a row of the table selects by the opcode and the
reserved bits; then operation by operation what is read from the words is what was placed there, and what is placed is what was
read. -/

namespace Sys2Proof

/-! ### A field of a word -/

/-- The value `x` placed in the `n` bits from bit `s` upward (R82: unshifted in the operand, at its place in the word). -/
def field (s : Nat) {n : Nat} (x : BitVec n) : Word := x.setWidth 32 <<< s

/-- The mask of the `n` bits from bit `s` upward. -/
def fieldMask (s n : Nat) : Word := field s (BitVec.allOnes n)

section
variable {n s : Nat} (x : BitVec n) (w : Word)

theorem setWidth_eq_field : x.setWidth 32 = field 0 x := (BitVec.shiftLeft_zero _).symm

theorem getLsbD_field (k : Nat) :
    (field s x).getLsbD k = (decide (s ≤ k ∧ k < 32) && x.getLsbD (k - s)) := by
  rw [field, BitVec.getLsbD_shiftLeft, BitVec.getLsbD_setWidth]
  grind

@[simp] theorem getElem_field_of_disjoint {k : Nat} (hk : k < 32) (h : s + n ≤ k ∨ k < s) : (field s x)[k] = false := by
  rw [← BitVec.getLsbD_eq_getElem, getLsbD_field]
  grind

@[simp] theorem getElem_field_ofBool (b : Bool) (h : s < 32) : (field s (BitVec.ofBool b))[s] = b := by
  rw [← BitVec.getLsbD_eq_getElem, getLsbD_field]
  simp [h]

@[simp] theorem extractLsb'_field (h : s + n ≤ 32) : (field s x).extractLsb' s n = x := by
  apply BitVec.eq_of_getLsbD_eq
  intro k hk
  rw [BitVec.getLsbD_extractLsb', getLsbD_field]
  grind

@[simp] theorem extractLsb'_field_of_disjoint {s' n' : Nat} (h : s + n ≤ s' ∨ s' + n' ≤ s) :
    (field s x).extractLsb' s' n' = 0#n' := by
  apply BitVec.eq_of_getLsbD_eq
  intro k hk
  rw [BitVec.getLsbD_extractLsb', getLsbD_field]
  grind

/-- A mask with no bit in the field. -/
@[simp] theorem field_and_of_disjoint {m : Word} (h : m.extractLsb' s n = 0#n) : field s x &&& m = 0#32 := by
  have hbit (j : Nat) : (decide (j < n) && m.getLsbD (s + j)) = false := by
    rw [← BitVec.getLsbD_extractLsb', h, BitVec.getLsbD_zero]
  apply BitVec.eq_of_getLsbD_eq
  intro k hk
  rw [BitVec.getLsbD_and, getLsbD_field, BitVec.getLsbD_zero]
  have hmask := hbit (k - s)
  grind

/-- Placing what was read keeps those bits of the word. -/
theorem field_extractLsb' : field s (w.extractLsb' s n) = w &&& fieldMask s n := by
  apply BitVec.eq_of_getLsbD_eq
  intro k hk
  rw [BitVec.getLsbD_and, fieldMask, getLsbD_field, getLsbD_field, BitVec.getLsbD_extractLsb']
  grind

theorem field_ofBool_getLsbD : field s (BitVec.ofBool (w.getLsbD s)) = w &&& fieldMask s 1 := by
  have hbit : BitVec.ofBool (w.getLsbD s) = w.extractLsb' s 1 := by
    apply BitVec.eq_of_getLsbD_eq
    intro k hk
    obtain rfl : k = 0 := by omega
    simp
  rw [hbit, field_extractLsb']

end

/-! ### The table of section 5: a row selects by the opcode and the reserved bits -/

theorem opcodeOf_eq_iff (w w' : Word) : opcodeOf w = opcodeOf w' ↔ w &&& 0xF0000000 = w' &&& 0xF0000000 := by
  have hplace (v : Word) : field 28 (opcodeOf v) = v &&& 0xF0000000 := field_extractLsb' v
  constructor
  · intro h
    rw [← hplace, h, hplace]
  · intro h
    rw [← extractLsb'_field (s := 28) (opcodeOf w) le_rfl, hplace, h, ← hplace, extractLsb'_field _ le_rfl]

theorem eq_opcode_or_others (w : Word) : w = (w &&& 0xF0000000) ||| (w &&& 0x0FFFFFFF) := by
  rw [← BitVec.and_or_distrib_left]
  exact BitVec.and_allOnes.symm

/-- Every row's mask holds the opcode and reserved bits, and its match is 0 beside the opcode. -/
theorem EncodingRow.selects_iff {r : EncodingRow} (hr : r ∈ encodingTable) (w0 : Word) :
    r.selects w0 = true ↔ opcodeOf w0 = opcodeOf r.base ∧ w0 &&& (r.mask &&& 0x0FFFFFFF) = 0 := by
  obtain ⟨hmask, hbase⟩ : r.mask &&& 0xF0000000 = 0xF0000000 ∧ r.base &&& 0x0FFFFFFF = 0 := by
    revert r
    decide
  rw [selects, beq_iff_eq, opcodeOf_eq_iff]
  constructor
  · intro h
    rw [← h, BitVec.and_assoc, hmask, ← BitVec.and_assoc, h]
    exact ⟨rfl, hbase⟩
  · rintro ⟨hop, hreserved⟩
    rw [eq_opcode_or_others (w0 &&& r.mask), BitVec.and_assoc, hmask, BitVec.and_assoc, hreserved, hop, ← hbase]
    exact (eq_opcode_or_others _).symm

section
variable (w0 : Word)

@[simp] theorem rowInit_selects : rowInit.selects w0 = true ↔ opcodeOf w0 = 0x1#4 ∧ w0 &&& 0x0FFC0000#32 = 0#32 :=
  EncodingRow.selects_iff (by decide) w0
@[simp] theorem rowSetnormal_selects : rowSetnormal.selects w0 = true ↔ opcodeOf w0 = 0x2#4 ∧ w0 &&& 0x0FFFFFFF#32 = 0#32 :=
  EncodingRow.selects_iff (by decide) w0
@[simp] theorem rowDisable_selects : rowDisable.selects w0 = true ↔ opcodeOf w0 = 0x3#4 ∧ w0 &&& 0x0FFFFFFF#32 = 0#32 :=
  EncodingRow.selects_iff (by decide) w0
@[simp] theorem rowRegrx_selects : rowRegrx.selects w0 = true ↔ opcodeOf w0 = 0x4#4 ∧ w0 &&& 0x0F007800#32 = 0#32 :=
  EncodingRow.selects_iff (by decide) w0
@[simp] theorem rowRegtx_selects : rowRegtx.selects w0 = true ↔ opcodeOf w0 = 0x5#4 ∧ w0 &&& 0x0E000000#32 = 0#32 :=
  EncodingRow.selects_iff (by decide) w0
@[simp] theorem rowTxdata_selects : rowTxdata.selects w0 = true ↔ opcodeOf w0 = 0x6#4 ∧ w0 &&& 0x0F00FFFF#32 = 0#32 :=
  EncodingRow.selects_iff (by decide) w0
@[simp] theorem rowSend_selects : rowSend.selects w0 = true ↔ opcodeOf w0 = 0x7#4 ∧ w0 &&& 0x0F00FFFF#32 = 0#32 :=
  EncodingRow.selects_iff (by decide) w0
@[simp] theorem rowDrain_selects : rowDrain.selects w0 = true ↔ opcodeOf w0 = 0x8#4 ∧ w0 &&& 0x0FFFFFFF#32 = 0#32 :=
  EncodingRow.selects_iff (by decide) w0
@[simp] theorem rowAbortsync_selects : rowAbortsync.selects w0 = true ↔ opcodeOf w0 = 0x9#4 ∧ w0 &&& 0x0FFFFFFF#32 = 0#32 :=
  EncodingRow.selects_iff (by decide) w0
@[simp] theorem rowCheckerr_selects : rowCheckerr.selects w0 = true ↔ opcodeOf w0 = 0xA#4 ∧ w0 &&& 0x0FFFFFFF#32 = 0#32 :=
  EncodingRow.selects_iff (by decide) w0
@[simp] theorem rowRxframe_selects : rowRxframe.selects w0 = true ↔ opcodeOf w0 = 0xC#4 ∧ w0 &&& 0x0FFF0000#32 = 0#32 :=
  EncodingRow.selects_iff (by decide) w0
@[simp] theorem rowTxconf_selects : rowTxconf.selects w0 = true ↔ opcodeOf w0 = 0xD#4 ∧ w0 &&& 0x0FFFFFFF#32 = 0#32 :=
  EncodingRow.selects_iff (by decide) w0
@[simp] theorem rowCbret_selects : rowCbret.selects w0 = true ↔ opcodeOf w0 = 0xE#4 ∧ w0 &&& 0x0FFFFFFF#32 = 0#32 :=
  EncodingRow.selects_iff (by decide) w0

end

/-! ### The words of the operations with operands, field by field -/

section
variable (txs rxs sync rtr : Bool) (rate txcap rxcap : BitVec 16) (idx : SlotIndex) (dlc : BitVec 4) (id mask : CanId)
  (ctx cb : Word) (data : Payload)

theorem encode_init : encode (.init txs rxs rate txcap rxcap) =
    [0x10000000#32 ||| field 17 (BitVec.ofBool txs) ||| field 16 (BitVec.ofBool rxs) ||| field 0 rate,
      field 16 txcap ||| field 0 rxcap] := by
  rw [← setWidth_eq_field, ← setWidth_eq_field]; rfl

theorem encode_regrx : encode (.regrx idx rtr id mask ctx cb) =
    [0x40000000#32 ||| field 16 idx ||| field 15 (BitVec.ofBool rtr) ||| field 0 id, field 0 mask, ctx, cb] := by
  rw [← setWidth_eq_field, ← setWidth_eq_field]; rfl

theorem encode_regtx : encode (.regtx sync idx rtr dlc id) =
    [0x50000000#32 ||| field 24 (BitVec.ofBool sync) ||| field 16 idx ||| field 15 (BitVec.ofBool rtr) ||| field 11 dlc
      ||| field 0 id] := by
  rw [← setWidth_eq_field]; rfl

theorem encode_txdata : encode (.txdata idx data) = [0x60000000#32 ||| field 16 idx, packLow data, packHigh data] := rfl

theorem encode_send : encode (.send idx) = [0x70000000#32 ||| field 16 idx] := rfl

theorem encode_rxframe : encode (.rxframe rtr dlc id data) =
    [0xC0000000#32 ||| field 15 (BitVec.ofBool rtr) ||| field 11 dlc ||| field 0 id, packLow data, packHigh data] := by
  rw [← setWidth_eq_field]; rfl

theorem packBytes_eq (b0 b1 b2 b3 : Byte) :
    packBytes b0 b1 b2 b3 = field 24 b3 ||| field 16 b2 ||| field 8 b1 ||| field 0 b0 := by
  rw [← setWidth_eq_field]; rfl

end

@[simp] theorem unpackPayload_pack (data : Payload) : unpackPayload (packLow data) (packHigh data) = data := by
  apply Vector.ext
  intro k hk
  interval_cases k <;> simp [unpackPayload, packLow, packHigh, packBytes_eq, BitVec.extractLsb'_or]

/-! ### What is read from the words of an operation -/

section
variable {w0 w1 w2 w3 : Word}

theorem decodeFields_of_rowInit (h : rowInit.selects w0 = true) :
    decodeFields w0 w1 w2 w3 =
      some (.init (w0.getLsbD 17) (w0.getLsbD 16) (w0.extractLsb' 0 16) (w1.extractLsb' 16 16) (w1.extractLsb' 0 16)) :=
  if_pos h

theorem decodeFields_of_rowRegrx (h : rowRegrx.selects w0 = true) (h1 : w1 &&& regrxW1Reserved = 0#32) :
    decodeFields w0 w1 w2 w3 = some (.regrx (fieldIdx w0) (fieldRtr w0) (fieldId w0) (fieldId w1) w2 w3) := by
  rw [rowRegrx_selects] at h
  simp [decodeFields, h, h1]

theorem decodeFields_of_rowRegtx (h : rowRegtx.selects w0 = true) :
    decodeFields w0 w1 w2 w3 =
      some (.regtx (w0.getLsbD 24) (fieldIdx w0) (fieldRtr w0) (fieldDlc w0) (fieldId w0)) := by
  rw [rowRegtx_selects] at h
  simp [decodeFields, h]

theorem decodeFields_of_rowTxdata (h : rowTxdata.selects w0 = true) :
    decodeFields w0 w1 w2 w3 = some (.txdata (fieldIdx w0) (unpackPayload w1 w2)) := by
  rw [rowTxdata_selects] at h
  simp [decodeFields, h]

theorem decodeFields_of_rowSend (h : rowSend.selects w0 = true) :
    decodeFields w0 w1 w2 w3 = some (.send (fieldIdx w0)) := by
  rw [rowSend_selects] at h
  simp [decodeFields, h]

theorem decodeFields_of_rowRxframe (h : rowRxframe.selects w0 = true) :
    decodeFields w0 w1 w2 w3 = some (.rxframe (fieldRtr w0) (fieldDlc w0) (fieldId w0) (unpackPayload w1 w2)) := by
  rw [rowRxframe_selects] at h
  simp [decodeFields, h]

end

/-- The decoder reads operation `i` from the fields of its words, whatever follows them. -/
def ReadsBack (i : Instr) : Prop :=
  ∀ rest : List Word, decodeFields ((encode i ++ rest).getD 0 0) ((encode i ++ rest).getD 1 0)
    ((encode i ++ rest).getD 2 0) ((encode i ++ rest).getD 3 0) = some i

namespace ReadsBack
variable {txs rxs sync rtr : Bool} {rate txcap rxcap : BitVec 16} {idx : SlotIndex} {dlc : BitVec 4} {id mask : CanId}
  {ctx cb : Word} {data : Payload}

theorem init : ReadsBack (.init txs rxs rate txcap rxcap) := by
  intro rest
  rw [encode_init]
  refine (decodeFields_of_rowInit ?_).trans ?_
  · simp [opcodeOf, BitVec.extractLsb'_or, BitVec.and_or_distrib_right]
  · simp [BitVec.extractLsb'_or]

theorem regrx : ReadsBack (.regrx idx rtr id mask ctx cb) := by
  intro rest
  rw [encode_regrx]
  refine (decodeFields_of_rowRegrx ?_ ?_).trans ?_
  · simp [opcodeOf, BitVec.extractLsb'_or, BitVec.and_or_distrib_right]
  · simp [regrxW1Reserved]
  · simp [fieldIdx, fieldRtr, fieldId, BitVec.extractLsb'_or]

theorem regtx : ReadsBack (.regtx sync idx rtr dlc id) := by
  intro rest
  rw [encode_regtx]
  refine (decodeFields_of_rowRegtx ?_).trans ?_
  · simp [opcodeOf, BitVec.extractLsb'_or, BitVec.and_or_distrib_right]
  · simp [fieldIdx, fieldRtr, fieldDlc, fieldId, BitVec.extractLsb'_or]

theorem txdata : ReadsBack (.txdata idx data) := by
  intro rest
  rw [encode_txdata]
  refine (decodeFields_of_rowTxdata ?_).trans ?_
  · simp [opcodeOf, BitVec.extractLsb'_or, BitVec.and_or_distrib_right]
  · simp [fieldIdx, BitVec.extractLsb'_or]

theorem send : ReadsBack (.send idx) := by
  intro rest
  rw [encode_send]
  refine (decodeFields_of_rowSend ?_).trans ?_
  · simp [opcodeOf, BitVec.extractLsb'_or, BitVec.and_or_distrib_right]
  · simp [fieldIdx, BitVec.extractLsb'_or]

theorem rxframe : ReadsBack (.rxframe rtr dlc id data) := by
  intro rest
  rw [encode_rxframe]
  refine (decodeFields_of_rowRxframe ?_).trans ?_
  · simp [opcodeOf, BitVec.extractLsb'_or, BitVec.and_or_distrib_right]
  · simp [fieldRtr, fieldDlc, fieldId, BitVec.extractLsb'_or]

end ReadsBack

theorem readsBack (i : Instr) : ReadsBack i := by
  cases i with
  | init => exact .init
  | regrx => exact .regrx
  | regtx => exact .regtx
  | txdata => exact .txdata
  | send => exact .send
  | rxframe => exact .rxframe
  | _ =>
    intro rest
    simp [encode, decodeFields, opcodeOf]

/-! ### The decoder, said once -/

open Laws.EncodeShape (headerOf)

theorem decode_eq_ok_iff {w0 : Word} {ops : List Word} {i : Instr} {rest : List Word} :
    decode (w0 :: ops) = .ok (i, rest) ↔
      opLength w0 ≤ ops.length + 1 ∧ opcodeReserved w0 = false ∧
        decodeFields w0 (ops.getD 0 0) (ops.getD 1 0) (ops.getD 2 0) = some i ∧
        (w0 :: ops).drop (opLength w0) = rest := by
  rw [decode, List.length_cons]
  generalize decodeFields w0 (ops.getD 0 0) (ops.getD 1 0) (ops.getD 2 0) = fields
  split
  next hshort => simp [Nat.not_le.mpr hshort]
  next hlen =>
    split
    next hreserved => simp [hreserved]
    next hassigned => cases fields <;> simp [hassigned, Nat.not_lt.mp hlen]

theorem encodeShape (i : Instr) : Laws.EncodeShape.Statement i := by
  cases i with
  | init => exact Laws.EncodeShape.init ..
  | setnormal => exact Laws.EncodeShape.setnormal
  | disable => exact Laws.EncodeShape.disable
  | regrx => exact Laws.EncodeShape.regrx ..
  | regtx => exact Laws.EncodeShape.regtx ..
  | txdata => exact Laws.EncodeShape.txdata ..
  | send => exact Laws.EncodeShape.send ..
  | drain => exact Laws.EncodeShape.drain
  | abortsync => exact Laws.EncodeShape.abortsync
  | checkerr => exact Laws.EncodeShape.checkerr
  | rxframe => exact Laws.EncodeShape.rxframe ..
  | txconf => exact Laws.EncodeShape.txconf
  | cbret => exact Laws.EncodeShape.cbret

theorem encode_eq_cons (i : Instr) : encode i = headerOf i :: (encode i).tail := by
  cases i <;> rfl

/-- Settles O1: the header carries the length and an assigned opcode, and the fields are read back operation by operation. -/
theorem decodeReadsEncodedOperation : Obligations.DecodeReadsEncodedOperation := by
  intro i rest
  obtain ⟨hlen, hassigned, -⟩ := encodeShape i
  have hfields := readsBack i rest
  have hcons := encode_eq_cons i
  rw [hcons, List.length_cons] at hlen
  rw [hcons] at hfields ⊢
  refine decode_eq_ok_iff.mpr ⟨?_, hassigned, hfields, ?_⟩
  · rw [← hlen]
    exact Nat.succ_le_succ (List.prefix_append _ rest).length_le
  · rw [← hlen]
    exact List.drop_left

/-! ### What is read from words is what was placed there -/

section
variable {w0 w1 w2 w3 : Word}

/-- Together the row's match and the bits outside its mask make the header. -/
theorem EncodingRow.base_or_unmasked {r : EncodingRow} (h : r.selects w0 = true) : r.base ||| w0 &&& ~~~r.mask = w0 := by
  rw [selects, beq_iff_eq] at h
  rw [← h, ← BitVec.and_or_distrib_left, BitVec.or_not_self, BitVec.and_allOnes]

theorem packBytes_extractLsb' (w : Word) :
    packBytes (w.extractLsb' 0 8) (w.extractLsb' 8 8) (w.extractLsb' 16 8) (w.extractLsb' 24 8) = w := by
  simp only [packBytes_eq, field_extractLsb', ← BitVec.and_or_distrib_left]
  exact BitVec.and_allOnes

theorem packLow_unpackPayload : packLow (unpackPayload w1 w2) = w1 := packBytes_extractLsb' w1

theorem packHigh_unpackPayload : packHigh (unpackPayload w1 w2) = w2 := packBytes_extractLsb' w2

theorem encode_of_rowInit (h : rowInit.selects w0 = true) :
    encode (.init (w0.getLsbD 17) (w0.getLsbD 16) (w0.extractLsb' 0 16) (w1.extractLsb' 16 16) (w1.extractLsb' 0 16)) =
      [w0, w1] := by
  have hw0 := EncodingRow.base_or_unmasked h
  have hw1 : w1 &&& (fieldMask 16 16 ||| fieldMask 0 16) = w1 := BitVec.and_allOnes
  simp only [encode_init, field_ofBool_getLsbD, field_extractLsb', BitVec.or_assoc, ← BitVec.and_or_distrib_left, hw1]
  exact congrArg (fun w => [w, w1]) hw0

theorem encode_of_rowRegrx (h : rowRegrx.selects w0 = true) (h1 : w1 &&& regrxW1Reserved = 0#32) :
    encode (.regrx (fieldIdx w0) (fieldRtr w0) (fieldId w0) (fieldId w1) w2 w3) = [w0, w1, w2, w3] := by
  have hw0 := EncodingRow.base_or_unmasked h
  have hw1 : w1 &&& (regrxW1Reserved ||| fieldMask 0 11) = w1 := BitVec.and_allOnes
  rw [BitVec.and_or_distrib_left, h1, BitVec.zero_or] at hw1
  simp only [encode_regrx, fieldIdx, fieldRtr, fieldId, field_ofBool_getLsbD, field_extractLsb', BitVec.or_assoc,
    ← BitVec.and_or_distrib_left, hw1]
  exact congrArg (fun w => [w, w1, w2, w3]) hw0

theorem encode_of_rowRegtx (h : rowRegtx.selects w0 = true) :
    encode (.regtx (w0.getLsbD 24) (fieldIdx w0) (fieldRtr w0) (fieldDlc w0) (fieldId w0)) = [w0] := by
  have hw0 := EncodingRow.base_or_unmasked h
  simp only [encode_regtx, fieldIdx, fieldRtr, fieldDlc, fieldId, field_ofBool_getLsbD, field_extractLsb',
    BitVec.or_assoc, ← BitVec.and_or_distrib_left]
  exact congrArg (fun w => [w]) hw0

theorem encode_of_rowTxdata (h : rowTxdata.selects w0 = true) :
    encode (.txdata (fieldIdx w0) (unpackPayload w1 w2)) = [w0, w1, w2] := by
  have hw0 := EncodingRow.base_or_unmasked h
  simp only [encode_txdata, fieldIdx, field_extractLsb', packLow_unpackPayload, packHigh_unpackPayload]
  exact congrArg (fun w => [w, w1, w2]) hw0

theorem encode_of_rowSend (h : rowSend.selects w0 = true) : encode (.send (fieldIdx w0)) = [w0] := by
  have hw0 := EncodingRow.base_or_unmasked h
  simp only [encode_send, fieldIdx, field_extractLsb']
  exact congrArg (fun w => [w]) hw0

theorem encode_of_rowRxframe (h : rowRxframe.selects w0 = true) :
    encode (.rxframe (fieldRtr w0) (fieldDlc w0) (fieldId w0) (unpackPayload w1 w2)) = [w0, w1, w2] := by
  have hw0 := EncodingRow.base_or_unmasked h
  simp only [encode_rxframe, fieldRtr, fieldDlc, fieldId, field_ofBool_getLsbD, field_extractLsb', BitVec.or_assoc,
    ← BitVec.and_or_distrib_left, packLow_unpackPayload, packHigh_unpackPayload]
  exact congrArg (fun w => [w, w1, w2]) hw0

/-- A row whose mask is full selects its match only. -/
theorem encode_of_fullMask {r : EncodingRow} {i : Instr} (hmask : r.mask = BitVec.allOnes 32) (hi : encode i = [r.base])
    (h : r.selects w0 = true) : encode i = [w0] := by
  rw [EncodingRow.selects, beq_iff_eq, hmask, BitVec.and_allOnes] at h
  rw [hi, h]

theorem forall_mem_ite {P : Instr → Prop} {c : Prop} [Decidable c] {a b : Option Instr} (ha : c → ∀ i ∈ a, P i)
    (hb : ∀ i ∈ b, P i) : ∀ i ∈ if c then a else b, P i := by
  split
  next h => exact ha h
  · exact hb

theorem encode_prefix_of_decodeFields :
    ∀ i ∈ decodeFields w0 w1 w2 w3, encode i <+: [w0, w1, w2, w3] := by
  have starts {j : Instr} {ws : List Word} (rest : List Word) (hj : encode j = ws)
      (hws : ws ++ rest = [w0, w1, w2, w3]) : ∀ i ∈ some j, encode i <+: [w0, w1, w2, w3] := by
    rintro i ⟨⟩
    exact ⟨rest, hj ▸ hws⟩
  exact
    forall_mem_ite (fun h => starts [w2, w3] (encode_of_rowInit h) rfl) <|
    forall_mem_ite (fun h => starts [w1, w2, w3] (encode_of_fullMask rfl rfl h) rfl) <|
    forall_mem_ite (fun h => starts [w1, w2, w3] (encode_of_fullMask rfl rfl h) rfl) <|
    forall_mem_ite (fun h => forall_mem_ite (fun h1 => starts [] (encode_of_rowRegrx h h1) rfl) nofun) <|
    forall_mem_ite (fun h => starts [w1, w2, w3] (encode_of_rowRegtx h) rfl) <|
    forall_mem_ite (fun h => starts [w3] (encode_of_rowTxdata h) rfl) <|
    forall_mem_ite (fun h => starts [w1, w2, w3] (encode_of_rowSend h) rfl) <|
    forall_mem_ite (fun h => starts [w1, w2, w3] (encode_of_fullMask rfl rfl h) rfl) <|
    forall_mem_ite (fun h => starts [w1, w2, w3] (encode_of_fullMask rfl rfl h) rfl) <|
    forall_mem_ite (fun h => starts [w1, w2, w3] (encode_of_fullMask rfl rfl h) rfl) <|
    forall_mem_ite (fun h => starts [w3] (encode_of_rowRxframe h) rfl) <|
    forall_mem_ite (fun h => starts [w1, w2, w3] (encode_of_fullMask rfl rfl h) rfl) <|
    forall_mem_ite (fun h => starts [w1, w2, w3] (encode_of_fullMask rfl rfl h) rfl) <|
    nofun

end

theorem opLength_le (w0 : Word) : opLength w0 ≤ 4 := by
  unfold opLength
  split_ifs <;> decide

/-- The words the decoder looks at are the words there, where it looks no further than they go. -/
theorem take_getD_eq_take {w0 : Word} {ops : List Word} {n : Nat} (hn : n ≤ 4) (hlen : n ≤ ops.length + 1) :
    [w0, ops.getD 0 0, ops.getD 1 0, ops.getD 2 0].take n = (w0 :: ops).take n := by
  apply List.ext_getElem?
  intro k
  rw [List.getElem?_take, List.getElem?_take]
  split
  next hk =>
    cases k with
    | zero => rfl
    | succ j =>
      have hj : ops[j]? = some (ops.getD j 0) := by
        rw [List.getD_eq_getElem?_getD, List.getElem?_eq_getElem (by omega), Option.getD_some]
      rw [List.getElem?_cons_succ, List.getElem?_cons_succ, hj]
      have hlt : j < 3 := by omega
      interval_cases j <;> rfl
  · rfl

/-- Settles O2: the fields placed again are the words looked at, and the length says how many these are. -/
theorem decodedWordsAreTheEncoding : Obligations.DecodedWordsAreTheEncoding := by
  intro ws i rest h
  cases ws with
  | nil => cases h
  | cons w0 ops =>
    obtain ⟨hlen, -, hfields, rfl⟩ := decode_eq_ok_iff.mp h
    have hprefix := encode_prefix_of_decodeFields i hfields
    have hheader : headerOf i = w0 := by
      rw [encode_eq_cons] at hprefix
      exact (List.cons_prefix_cons.mp hprefix).1
    obtain ⟨hcount, -⟩ := encodeShape i
    rw [hheader] at hcount
    have hwords : encode i = (w0 :: ops).take (opLength w0) := by
      rw [List.prefix_iff_eq_take.mp hprefix, hcount, take_getD_eq_take (opLength_le w0) hlen]
    rw [hwords, List.take_append_drop]

end Sys2Proof
end

section
/-! PROOFS of the statements of spec/30_encoding.md, second part: which encodings are illegal (R83), and what a step does with the
operation at the head of the one ready port, legal, illegal or of the other port (R70, R71, R83 to R85). -/

namespace Sys2Proof

/-! ### Which encodings are illegal -/

theorem opcode_cases (op : BitVec 4) :
    op = 0x0 ∨ op = 0x1 ∨ op = 0x2 ∨ op = 0x3 ∨ op = 0x4 ∨ op = 0x5 ∨ op = 0x6 ∨ op = 0x7 ∨
      op = 0x8 ∨ op = 0x9 ∨ op = 0xA ∨ op = 0xB ∨ op = 0xC ∨ op = 0xD ∨ op = 0xE ∨ op = 0xF := by
  revert op
  decide

theorem opcodeReserved_iff (w0 : Word) :
    opcodeReserved w0 = true ↔ opcodeOf w0 = 0x0 ∨ opcodeOf w0 = 0xB ∨ opcodeOf w0 = 0xF := by
  simp [opcodeReserved, or_assoc]

theorem opLength_of_opcodeReserved {w0 : Word} (h : opcodeReserved w0 = true) : opLength w0 = 1 := by
  rw [opcodeReserved_iff] at h
  rcases h with h | h | h <;> simp [opLength, h]

/-- Opcode by opcode: the row of the opcode, if there is one, selects when its reserved bits are 0. -/
theorem decodeFields_eq_none_iff (w0 w1 w2 w3 : Word) :
    decodeFields w0 w1 w2 w3 = none ↔ opcodeReserved w0 = true ∨ Claims.reservedBitSet w0 w1 := by
  have hw1 : w1 &&& 0xFFFFF800#32 = w1 &&& regrxW1Reserved := rfl
  rcases opcode_cases (opcodeOf w0) with h | h | h | h | h | h | h | h | h | h | h | h | h | h | h | h <;>
    simp [decodeFields, opcodeReserved, Claims.reservedBitSet, h, hw1, imp_iff_not_or]

theorem decode_eq_error_iff {w0 : Word} {ops : List Word} (hlen : opLength w0 ≤ ops.length + 1) :
    (∃ e, decode (w0 :: ops) = .error e) ↔ opcodeReserved w0 = true ∨ Claims.reservedBitSet w0 (ops.getD 0 0) := by
  rw [← decodeFields_eq_none_iff w0 (ops.getD 0 0) (ops.getD 1 0) (ops.getD 2 0)]
  constructor
  · rintro ⟨e, he⟩
    cases hassigned : opcodeReserved w0 with
    | true => exact (decodeFields_eq_none_iff ..).mpr (.inl hassigned)
    | false =>
      refine Option.eq_none_iff_forall_ne_some.mpr fun i hi => ?_
      have hok := decode_eq_ok_iff.mpr ⟨hlen, hassigned, hi, rfl⟩
      rw [he] at hok
      contradiction
  · intro hnone
    cases hd : decode (w0 :: ops) with
    | error e => exact ⟨e, rfl⟩
    | ok r =>
      obtain ⟨-, -, hsome, -⟩ := decode_eq_ok_iff.mp hd
      rw [hnone] at hsome
      contradiction

end Sys2Proof

namespace Sys2Proof.Machine

/-! ### A step with one ready port -/

theorem readyWords_cons {w0 : Word} {ops : List Word} : readyWords (w0 :: ops) = true ↔ opLength w0 ≤ ops.length + 1 :=
  decide_eq_true_iff

/-- What decodes is whole. -/
theorem readyWords_of_decode {ws : List Word} {i : Instr} {rest : List Word} (h : decode ws = .ok (i, rest)) :
    readyWords ws = true := by
  cases ws with
  | nil => cases h
  | cons w0 ops => exact readyWords_cons.mpr (decode_eq_ok_iff.mp h).1

/-- The words after a legal operation are those the fetch leaves after an illegal one of its opcode (R83, R85). -/
theorem wordsAfter_of_decode {ws : List Word} {i : Instr} {rest : List Word} (h : decode ws = .ok (i, rest)) :
    wordsAfter ws = rest := by
  cases ws with
  | nil => cases h
  | cons w0 ops =>
    obtain ⟨-, -, -, hrest⟩ := decode_eq_ok_iff.mp h
    exact hrest

theorem decodeAt_of_error {ws : List Word} {e : DecodeError} (h : decode ws = .error e) (p : Port) :
    decodeAt p ws = .error e := by
  rw [decodeAt, h]

theorem decodeAt_of_wrongPort {ws : List Word} {i : Instr} {rest : List Word} (h : decode ws = .ok (i, rest)) {p : Port}
    (hp : i.port ≠ p) : decodeAt p ws = .error .wrongPort := by
  simp [decodeAt, h, Request.wellFormed, hp]

section
variable {s : State}

theorem fetch_of_command_ready (hcmd : readyWords s.cmdIn = true) (hev : readyWords s.evIn = false) :
    fetch s = fetchFrom .command s := by
  rw [fetch, hcmd, hev]

theorem fetch_of_event_ready (hev : readyWords s.evIn = true) (hcmd : readyWords s.cmdIn = false) :
    fetch s = fetchFrom .event s := by
  rw [fetch, hcmd, hev]

theorem step_of_fetchFrom_ok {p : Port} {i : Instr} {rest : List Word} (hf : fetch s = fetchFrom p s)
    (hd : decodeAt p (s.queue p) = .ok (i, rest)) : step s = exec i (s.setQueue p rest) := by
  rw [step, hf, fetchFrom, hd]

theorem step_of_fetchFrom_error {p : Port} {e : DecodeError} (hf : fetch s = fetchFrom p s)
    (hd : decodeAt p (s.queue p) = .error e) :
    step s = illegalOperation p (s.setQueue p (wordsAfter (s.queue p))) := by
  rw [step, hf, fetchFrom, hd]

end

/-- Settles O7: what decodes is whole, so the command port is the one ready port. -/
theorem stepRunsDecodedCommand : Obligations.StepRunsDecodedCommand := by
  intro s i rest hd hev
  obtain ⟨hdecode, -⟩ := decodeAt_ok.mp hd
  exact step_of_fetchFrom_ok (fetch_of_command_ready (readyWords_of_decode hdecode) hev) hd

/-- Settles O8: what decodes is whole, so the event port is the one ready port. -/
theorem stepRunsDecodedEvent : Obligations.StepRunsDecodedEvent := by
  intro s i rest hd hcmd
  obtain ⟨hdecode, -⟩ := decodeAt_ok.mp hd
  exact step_of_fetchFrom_ok (fetch_of_event_ready (readyWords_of_decode hdecode) hcmd) hd

/-- Settles O5: opcode by opcode for the encodings; the one ready port is fetched from and its decoding fails. -/
theorem illegalEncodingHasNoEffect : Obligations.IllegalEncodingHasNoEffect := by
  refine ⟨fun w0 ops hlen => ?_, fun w0 hop => ?_, fun s w0 ops e hs hlen hd hev => ?_,
    fun s w0 ops e hs hlen hd hcmd => ?_⟩
  · rw [decode_eq_error_iff hlen, opcodeReserved_iff, or_assoc, or_assoc]
  · exact opLength_of_opcodeReserved ((opcodeReserved_iff w0).mpr hop)
  · have hready : readyWords s.cmdIn = true := hs ▸ readyWords_cons.mpr hlen
    rw [step_of_fetchFrom_error (fetch_of_command_ready hready hev) (decodeAt_of_error hd _), State.queue_command, hs]
    rfl
  · have hready : readyWords s.evIn = true := hs ▸ readyWords_cons.mpr hlen
    rw [step_of_fetchFrom_error (fetch_of_event_ready hready hcmd) (decodeAt_of_error hd _), State.queue_event, hs]
    rfl

/-- Settles O6: the words decode, to an operation of the other port, and as many are consumed as decoding reads. -/
theorem wrongPortOperationIsIllegal : Obligations.WrongPortOperationIsIllegal := by
  refine ⟨fun s i rest hport hs hcmd => ?_, fun s i rest hport hs hev => ?_⟩
  · have hd : decode s.evIn = .ok (i, rest) := hs ▸ decodeReadsEncodedOperation i rest
    have hwrong : decodeAt .event s.evIn = .error .wrongPort := decodeAt_of_wrongPort hd (by simp [hport])
    rw [step_of_fetchFrom_error (fetch_of_event_ready (readyWords_of_decode hd) hcmd) hwrong, State.queue_event,
      wordsAfter_of_decode hd]
    rfl
  · have hd : decode s.cmdIn = .ok (i, rest) := hs ▸ decodeReadsEncodedOperation i rest
    have hwrong : decodeAt .command s.cmdIn = .error .wrongPort := decodeAt_of_wrongPort hd (by simp [hport])
    rw [step_of_fetchFrom_error (fetch_of_command_ready (readyWords_of_decode hd) hev) hwrong, State.queue_command,
      wordsAfter_of_decode hd]
    rfl

end Sys2Proof.Machine
end

section
/-! PROOFS of the statements of spec/30_encoding.md, third part: the outputs of an operation and its result code (R70, R170, R186).
Outputs are counted update by update, through the parts of operations, to the operations themselves. -/

namespace Sys2Proof.Machine

open Claims (isResult maxOutputs)

/-- At most `n` outputs, none of them a result code. -/
structure AtMost (n : Nat) (os : List Output) : Prop where
  length_le : os.length ≤ n
  noResult : ∀ o ∈ os, isResult o = false

namespace AtMost
variable {n k : Nat} {os os' : List Output}

theorem nil : AtMost 0 [] := ⟨le_rfl, nofun⟩

theorem one {o : Output} (h : isResult o = false) : AtMost 1 [o] := ⟨le_rfl, by simpa using h⟩

theorem append (h : AtMost n os) (h' : AtMost k os') : AtMost (n + k) (os ++ os') where
  length_le := by
    rw [List.length_append]
    exact Nat.add_le_add h.length_le h'.length_le
  noResult o ho := (List.mem_append.mp ho).elim (h.noResult o) (h'.noResult o)

theorem mono (h : AtMost n os) (hk : n ≤ k) : AtMost k os := ⟨h.length_le.trans hk, h.noResult⟩

/-! The calls of CHECKERR (R142). -/

theorem passiveCalls (k : PassiveClears) (sent active : Bool) (e : Word) :
    AtMost 2 (Machine.passiveCalls k sent active e) := by
  unfold Machine.passiveCalls
  split
  · split
    · exact (one rfl).mono (by decide)
    · exact nil.mono (by decide)
  · split
    · exact (one rfl).append (one rfl)
    · exact nil.mono (by decide)

theorem overflowCalls (e : Word) : AtMost 1 (Machine.overflowCalls e) := by
  unfold Machine.overflowCalls
  split
  · exact one rfl
  · exact nil.mono (by decide)

theorem warningCall (e : Word) : AtMost 1 [Machine.warningCall e] := by
  unfold Machine.warningCall
  split <;> exact one rfl

theorem errorCalls (k : PassiveClears) (sent active : Bool) (e : Word) :
    AtMost 5 (Machine.errorCalls k sent active e) := by
  unfold Machine.errorCalls
  split
  · exact ((one rfl).append (overflowCalls e)).mono (by decide)
  · exact (((one rfl).append (warningCall e)).append (passiveCalls k sent active e)).append (overflowCalls e)

end AtMost

/-- State `t` has carried what `s` has, and then at most `n` outputs, none of them a result code. -/
def State.Adds (s : State) (n : Nat) (t : State) : Prop := ∃ os, t.trace = s.trace ++ os ∧ AtMost n os

/-- State `t` has carried what `s` has, then at most `n` outputs, and then one result code. -/
def State.Replies (s : State) (n : Nat) (t : State) : Prop :=
  ∃ os c, t.trace = s.trace ++ os ++ [.result c] ∧ AtMost n os

/-! ### The updates and the parts of operations -/

namespace State.Adds
variable {s t : State} {n : Nat}

theorem refl (s : State) : s.Adds 0 s := ⟨[], by simp, .nil⟩

theorem of_trace_eq {u : State} (h : s.Adds n t) (hu : u.trace = t.trace) : s.Adds n u := by rwa [Adds, hu]

theorem withMod (h : s.Adds n t) (m : ModuleState) : s.Adds n (t.withMod m) := h.of_trace_eq rfl

theorem withRegistered (h : s.Adds n t) (l : List SlotIndex) : s.Adds n (t.withRegistered l) := h.of_trace_eq rfl

theorem draw (h : s.Adds n t) : s.Adds n t.draw := h.of_trace_eq rfl

theorem emitAll (h : s.Adds n t) {os : List Output} {k : Nat} (hos : AtMost k os) : s.Adds (n + k) (t.emitAll os) := by
  obtain ⟨before, htrace, hbefore⟩ := h
  exact ⟨before ++ os, by simp [htrace], hbefore.append hos⟩

theorem emit (h : s.Adds n t) {o : Output} (ho : isResult o = false) : s.Adds (n + 1) (t.emit o) := h.emitAll (.one ho)

theorem mono {k : Nat} (h : s.Adds n t) (hk : n ≤ k) : s.Adds k t := by
  obtain ⟨os, htrace, hos⟩ := h
  exact ⟨os, htrace, hos.mono hk⟩

theorem askEnable (h : s.Adds n t) : s.Adds (n + 1) t.askEnable :=
  (h.emit (o := .htiEnable) rfl).of_trace_eq (by simp)

theorem askTxFree (h : s.Adds n t) : s.Adds (n + 1) t.askTxFree :=
  (h.emit (o := .htiTxFree) rfl).of_trace_eq (by simp)

theorem askWrite (h : s.Adds n t) (f : Frame) : s.Adds (n + 1) (t.askWrite f) :=
  (h.emit (o := .htiWrite f) rfl).of_trace_eq (by simp)

theorem askErrors (h : s.Adds n t) : s.Adds (n + 1) t.askErrors :=
  (h.emit (o := .htiErrors) rfl).of_trace_eq (by simp)

theorem cycleChannel (h : s.Adds n t) : s.Adds (n + 2) t.cycleChannel := (h.emit rfl).askEnable

theorem noteErrors (h : s.Adds n t) (e : Word) : s.Adds (n + 5) (Machine.noteErrors e t) := by
  by_cases he : e = t.mod.lastErrorBitmap
  · rw [noteErrors_unchanged t he]
    exact h.mono (Nat.le_add_right n 5)
  · rw [noteErrors_changed t he]
    exact (h.withMod _).emitAll (.errorCalls ..)

theorem dispatch (h : s.Adds n t) (r : RxSlot) : s.Adds (n + 1) (t.dispatch r) := by
  rw [State.dispatch_eq]
  split
  · exact h.mono (Nat.le_add_right n 1)
  · exact (h.withMod _).emit rfl

theorem ret {k : Nat} (h : s.Adds n t) (hk : n ≤ k) (c : Result) : NextHolds (s.Replies k) (Machine.ret c t) := by
  obtain ⟨os, htrace, hos⟩ := h
  exact (nextHolds_ret c).mpr ⟨os, c, by rw [State.emit_trace, htrace], hos.mono hk⟩

theorem enqueue {k : Nat} (h : s.Adds n t) (hk : n ≤ k) (i : Nat) : NextHolds (s.Replies k) (Machine.enqueue i t) := by
  unfold Machine.enqueue
  split
  · exact nextHolds_refused _
  · exact (h.withMod _).ret hk _

theorem dequeueWritten {k : Nat} (h : s.Adds n t) (hk : n ≤ k) (i : Nat) :
    NextHolds (s.Replies k) (Machine.dequeueWritten i t) := by
  unfold Machine.dequeueWritten
  split
  · exact nextHolds_refused _
  · exact ((h.withMod _).withMod _).ret hk _

theorem sendDirect {k : Nat} (h : s.Adds n t) (hk : n + 1 ≤ k) (r : TxSlot) :
    NextHolds (s.Replies k) (Machine.sendDirect r t) := by
  unfold Machine.sendDirect
  split
  · exact ((h.askWrite _).withMod _).ret hk _
  · exact (h.askWrite _).ret hk _

theorem failedInit {k : Nat} (h : s.Adds n t) (hk : n ≤ k) (c : Result) :
    NextHolds (s.Replies k) (Machine.failedInit c t) :=
  ((h.withMod _).withRegistered _).draw.ret hk c

end State.Adds

/-! ### The commands: counted outputs, then one result code -/

namespace State.Replies
variable (s : State)

theorem rejected (n : Nat) : s.Replies n (s.emit (.result .illegalArgument)) :=
  ⟨[], .illegalArgument, by simp, AtMost.nil.mono (Nat.zero_le n)⟩

theorem execInit (txs rxs : Bool) (rate txcap rxcap : BitVec 16) :
    NextHolds (s.Replies 2) (Machine.execInit txs rxs rate txcap rxcap s) := by
  unfold Machine.execInit
  split
  · split
    · exact (Adds.refl s).failedInit (by decide) _
    · exact (((Adds.refl s).withMod _).withRegistered _).cycleChannel.ret le_rfl _
  · exact (Adds.refl s).failedInit (by decide) _

theorem execSetnormal : NextHolds (s.Replies 1) (Machine.execSetnormal s) :=
  .command (rejected s 1) fun _ => ((Adds.refl s).askEnable.withMod _).ret le_rfl _

theorem execDisable : NextHolds (s.Replies 2) (Machine.execDisable s) :=
  .command (rejected s 2) fun _ => ((Adds.refl s).cycleChannel.withMod _).ret le_rfl _

theorem execRegrx (idx : SlotIndex) (rtr : Bool) (id mask : CanId) (ctx cb : Word) :
    NextHolds (s.Replies 1) (Machine.execRegrx idx rtr id mask ctx cb s) := by
  refine .command (rejected s 1) fun _ => ?_
  split
  · exact .refuseIf fun _ => (((Adds.refl s).withMod _).emit rfl).ret le_rfl _
  · exact (Adds.refl s).ret (by decide) _

theorem execRegtx (sync : Bool) (idx : SlotIndex) (rtr : Bool) (dlc : BitVec 4) (id : CanId) :
    NextHolds (s.Replies 0) (Machine.execRegtx sync idx rtr dlc id s) :=
  .txCommand (rejected s 0) fun _ _ => .refuseWhen fun _ => .refuseWhen fun _ =>
    (((Adds.refl s).withMod _).withRegistered _).ret le_rfl _

theorem execTxdata (idx : SlotIndex) (data : Payload) : NextHolds (s.Replies 0) (Machine.execTxdata idx data s) :=
  .txCommand (rejected s 0) fun _ _ => ((Adds.refl s).withMod _).ret le_rfl _

theorem sendOverflow (r : TxSlot) : NextHolds (s.Replies 2) (Machine.sendOverflow r s) := by
  unfold Machine.sendOverflow
  split
  · exact ((Adds.refl s).emit rfl).ret (by decide) _
  · exact (Adds.refl s).ret (by decide) _

theorem execSend (idx : SlotIndex) : NextHolds (s.Replies 2) (Machine.execSend idx s) := by
  refine .txCommand (rejected s 2) fun _ _ => .refuseWhen fun _ => ?_
  split
  · exact sendOverflow s _
  · split
    · exact (Adds.refl s).askTxFree.sendDirect le_rfl _
    · exact (Adds.refl s).askTxFree.enqueue (by decide) _

theorem drainSlot (i : Nat) : NextHolds (s.Replies 1) (Machine.drainSlot i s) := by
  unfold Machine.drainSlot
  split
  · exact ((Adds.refl s).askWrite _).dequeueWritten le_rfl i
  · exact ((Adds.refl s).askWrite _).ret le_rfl _

theorem execDrain : NextHolds (s.Replies 1) (Machine.execDrain s) := by
  refine .command (rejected s 1) fun _ => ?_
  split
  · split
    · exact (Adds.refl s).ret (by decide) _
    · exact drainSlot s _
  · exact (Adds.refl s).ret (by decide) _

theorem execAbortsync : NextHolds (s.Replies 1) (Machine.execAbortsync s) := by
  refine .command (rejected s 1) fun _ => ?_
  split
  · exact nextHolds_refused _
  · have cleared := (Adds.refl s).withMod (((s.mod.setSyncAbort false).setTx (abortRows s.mod)).setCount
      (s.mod.pendingTransmitCount - BitVec.ofNat 16 (numQueuedSync s.mod)))
    refine Adds.ret ?_ le_rfl _
    split
    · exact cleared.mono (by decide)
    · exact cleared.emit rfl

theorem execCheckerr : NextHolds (s.Replies 6) (Machine.execCheckerr s) :=
  .command (rejected s 6) fun _ => ((Adds.refl s).askErrors.noteErrors _).ret le_rfl _

/-- Every command (R186). -/
theorem exec {i : Instr} (h : i.port = .command) : NextHolds (s.Replies (maxOutputs i)) (Machine.exec i s) := by
  cases i with
  | init txs rxs rate txcap rxcap => exact execInit s txs rxs rate txcap rxcap
  | setnormal => exact execSetnormal s
  | disable => exact execDisable s
  | regrx idx rtr id mask ctx cb => exact execRegrx s idx rtr id mask ctx cb
  | regtx sync idx rtr dlc id => exact execRegtx s sync idx rtr dlc id
  | txdata idx data => exact execTxdata s idx data
  | send idx => exact execSend s idx
  | drain => exact execDrain s
  | abortsync => exact execAbortsync s
  | checkerr => exact execCheckerr s
  | rxframe | txconf | cbret => contradiction

end State.Replies

/-! ### The events: counted outputs only -/

namespace State.Adds
variable (s : State)

theorem execRxframe (rtr : Bool) (dlc : BitVec 4) (id : CanId) (data : Payload) :
    NextHolds (s.Adds 1) (Machine.execRxframe rtr dlc id data s) := by
  have buffered := (refl s).withMod (s.mod.setRxBuf ⟨id, rtr, dlc, data⟩)
  refine .event ((refl s).mono (by decide)) fun _ => .refuseIf fun _ => nextHolds_next.mpr ?_
  split
  · exact buffered.mono (by decide)
  · exact buffered.dispatch _

theorem execTxconf : NextHolds (s.Adds 0) (Machine.execTxconf s) :=
  .event (refl s) fun _ => nextHolds_next.mpr ((refl s).withMod _)

theorem execCbret : NextHolds (s.Adds 0) (Machine.execCbret s) :=
  .event (refl s) fun _ => nextHolds_next.mpr ((refl s).withMod _)

/-- Every event (R186). -/
theorem exec {i : Instr} (h : i.port = .event) : NextHolds (s.Adds (maxOutputs i)) (Machine.exec i s) := by
  cases i with
  | rxframe rtr dlc id data => exact execRxframe s rtr dlc id data
  | txconf => exact execTxconf s
  | cbret => exact execCbret s
  | _ => contradiction

end State.Adds

/-- Settles O43: command by command and event by event, the updates that emit are counted. -/
theorem outputsPerOperationAreBounded : Obligations.OutputsPerOperationAreBounded := by
  intro i s t h
  refine ⟨fun hport => ?_, fun hport => ?_⟩
  · obtain ⟨os, c, htrace, hos⟩ := State.Replies.exec s hport t h
    exact ⟨os, c, htrace, hos.length_le, hos.noResult⟩
  · obtain ⟨os, htrace, hos⟩ := State.Adds.exec s hport t h
    exact ⟨os, htrace, hos.length_le, hos.noResult⟩

end Sys2Proof.Machine
end

section
/-! PROOFS of the statements of spec/41_transmit.md, first part: what REGTX, TXDATA, SEND, DRAIN, ABORTSYNC and TXCONF answer once
the checks common to commands are passed (R101 to R113). Each operation has its equation, or one equation per branch; the
statements are read off these. -/

namespace Sys2Proof.Machine

open Claims (frameOf)

/-! ### Checks that are passed, and refusals (R11, R54, R100) -/

section
variable {s : State}

theorem txCommand_of_inRange (hinit : s.mod.initialised = true) {idx : SlotIndex} (hidx : idx.toNat < s.mod.txCap.toNat)
    (body : Host.Outcome State Fault Refusal) : txCommand idx s body = body := by
  rw [txCommand, command_of_initialised hinit, if_pos hidx]

theorem refuseWhen_of_proceeds {P : Prop} {b : Bool} (h : Proceeds s P) (hb : b = true → P) (why : Refusal)
    (body : Host.Outcome State Fault Refusal) : refuseWhen s b why body = body := by
  rcases h with hliteral | hnot
  · exact refuseWhen_literal hliteral b why body
  · rw [Bool.eq_false_iff.mpr (mt hb hnot), refuseWhen_false]

theorem refuseWhen_true_of_refuse (h : s.params.usage = .refuse) (why : Refusal)
    (body : Host.Outcome State Fault Refusal) : refuseWhen s true why body = .refused why := by
  simp [refuseWhen, h]

end

/-! ### A written transmit row -/

theorem ModuleState.txRow_setTxRow_self {m : ModuleState} {i : Nat} (h : i < m.tx.length) (r : TxSlot) :
    (m.setTxRow i r).txRow i = r := by
  simp [txRow_setTxRow, h]

/-! ### REGTX (R101, R102, R199) -/

theorem dlcAboveEight_iff {dlc : BitVec 4} : dlcAboveEight dlc = true ↔ 8 < dlc.toNat := decide_eq_true_iff

section
variable {s : State} {idx : SlotIndex} {dlc : BitVec 4} (hinit : s.mod.initialised = true)
  (hidx : idx.toNat < s.mod.txCap.toNat) (sync rtr : Bool) (id : CanId)
include hinit hidx

theorem execRegtx_of_proceeds (h : Proceeds s ((s.mod.txRow idx.toNat).full = true ∨ 8 < dlc.toNat)) :
    execRegtx sync idx rtr dlc id s =
      ret .ok ((s.withMod (s.mod.setTxRow idx.toNat
        ⟨encId id rtr, dlc, (s.mod.txRow idx.toNat).data, false, sync⟩)).withRegistered (s.txRegistered.insert idx)) := by
  rw [execRegtx, txCommand_of_inRange hinit hidx, refuseWhen_of_proceeds h .inl,
    refuseWhen_of_proceeds h fun hdlc => .inr (dlcAboveEight_iff.mp hdlc)]

theorem execRegtx_of_queued (hrefuse : s.params.usage = .refuse) (hfull : (s.mod.txRow idx.toNat).full = true) :
    execRegtx sync idx rtr dlc id s = .refused .registrationOfQueuedSlot := by
  rw [execRegtx, txCommand_of_inRange hinit hidx, hfull, refuseWhen_true_of_refuse hrefuse]

theorem execRegtx_of_long (hrefuse : s.params.usage = .refuse) (hfull : (s.mod.txRow idx.toNat).full = false)
    (hdlc : 8 < dlc.toNat) : execRegtx sync idx rtr dlc id s = .refused .dataLengthAboveEight := by
  rw [execRegtx, txCommand_of_inRange hinit hidx, hfull, refuseWhen_false, dlcAboveEight_iff.mpr hdlc,
    refuseWhen_true_of_refuse hrefuse]

end

/-- Settles O28: REGTX goes on and writes one row. -/
theorem regtxWritesRegistration : Obligations.RegtxWritesRegistration := by
  intro s sync idx rtr dlc id hinit hidx hproceeds
  exact ⟨_, execRegtx_of_proceeds hinit hidx sync rtr id hproceeds, rfl,
    fun hlen => ModuleState.txRow_setTxRow_self hlen _, fun j hj => ModuleState.txRow_setTxRow_ne hj.symm _⟩

/-- Settles O29, refusal by refusal. -/
theorem regtxMisuseIsRefused : Obligations.RegtxMisuseIsRefused :=
  fun _ sync _ rtr _ id hinit hidx hrefuse =>
    ⟨execRegtx_of_queued hinit hidx sync rtr id hrefuse, execRegtx_of_long hinit hidx sync rtr id hrefuse⟩

/-! ### TXDATA (R103) -/

theorem execTxdata_of_inRange {s : State} {idx : SlotIndex} (hinit : s.mod.initialised = true)
    (hidx : idx.toNat < s.mod.txCap.toNat) (data : Payload) :
    execTxdata idx data s =
      ret .ok (s.withMod (s.mod.setTxRow idx.toNat { s.mod.txRow idx.toNat with data := data })) := by
  rw [execTxdata, txCommand_of_inRange hinit hidx]

/-- Settles O30: the example words decode, the common checks fail or pass, and one row is written. -/
theorem txdataWritesPayload : Obligations.TxdataWritesPayload := by
  refine ⟨rfl, fun s idx data hbad => ?_, fun s idx data hinit hidx => ?_⟩
  · rcases hbad with huninit | hbeyond
    · exact command_of_uninitialised huninit _
    · exact txCommand_of_beyond hbeyond _
  · exact ⟨_, execTxdata_of_inRange hinit hidx data, rfl,
      fun hlen => ModuleState.txRow_setTxRow_self hlen _, fun j hj => ModuleState.txRow_setTxRow_ne hj.symm _⟩

/-! ### What an operation leaves of the surroundings -/

namespace SameSurroundings
variable {s t : State}

theorem refl (s : State) : SameSurroundings s s := ⟨rfl, rfl, rfl, rfl⟩

theorem withMod (h : SameSurroundings s t) (m : ModuleState) : SameSurroundings s (t.withMod m) := h

theorem emitAll (h : SameSurroundings s t) (os : List Output) : SameSurroundings s (t.emitAll os) := h

theorem emit (h : SameSurroundings s t) (o : Output) : SameSurroundings s (t.emit o) := h

theorem askTxFree (h : SameSurroundings s t) : SameSurroundings s t.askTxFree := by
  simpa [SameSurroundings] using h

theorem askWrite (h : SameSurroundings s t) (f : Frame) : SameSurroundings s (t.askWrite f) := by
  simpa [SameSurroundings] using h

end SameSurroundings

theorem State.emitAll_nil (s : State) : s.emitAll [] = s := by simp [emitAll]

/-! ### SEND, branch by branch (R104 to R106) -/

/-- R109: the two spellings of the wire frame agree. -/
theorem frameOf_eq_wireFrame (r : TxSlot) : frameOf r = wireFrame r := rfl

section
variable {s : State} {idx : SlotIndex} (hinit : s.mod.initialised = true) (hidx : idx.toNat < s.mod.txCap.toNat)
include hinit hidx

theorem execSend_of_unregistered (hrefuse : s.params.usage = .refuse) (hreg : idx ∉ s.txRegistered) :
    execSend idx s = .refused .slotNotRegistered := by
  rw [execSend, txCommand_of_inRange hinit hidx, List.contains_eq_mem, decide_eq_false hreg, Bool.not_false,
    refuseWhen_true_of_refuse hrefuse]

variable (hproceeds : Proceeds s (idx ∉ s.txRegistered))
include hproceeds

theorem execSend_of_proceeds :
    execSend idx s = if (s.mod.txRow idx.toNat).full then sendOverflow (s.mod.txRow idx.toNat) s
      else if s.txFreeAnswer ∧ s.mod.pendingTransmitCount = 0 then sendDirect (s.mod.txRow idx.toNat) s.askTxFree
      else enqueue idx.toNat s.askTxFree := by
  rw [execSend, txCommand_of_inRange hinit hidx, refuseWhen_of_proceeds hproceeds (by simp)]

theorem execSend_of_full (hfull : (s.mod.txRow idx.toNat).full = true) :
    execSend idx s = sendOverflow (s.mod.txRow idx.toNat) s := by
  rw [execSend_of_proceeds hinit hidx hproceeds, if_pos hfull]

variable (hfull : (s.mod.txRow idx.toNat).full = false)
include hfull

theorem execSend_of_free (hfree : s.txFreeAnswer = true) (hcount : s.mod.pendingTransmitCount = 0) :
    execSend idx s = sendDirect (s.mod.txRow idx.toNat) s.askTxFree := by
  rw [execSend_of_proceeds hinit hidx hproceeds, if_neg (by simp [hfull]), if_pos ⟨hfree, hcount⟩]

theorem execSend_of_busy (h : s.txFreeAnswer = false ∨ s.mod.pendingTransmitCount ≠ 0) :
    execSend idx s = enqueue idx.toNat s.askTxFree := by
  rw [execSend_of_proceeds hinit hidx hproceeds, if_neg (by simp [hfull]), if_neg]
  rintro ⟨hfree, hcount⟩
  rcases h with hnone | hpending
  · simp [hfree] at hnone
  · exact hpending hcount

end

theorem sendOverflow_eq (r : TxSlot) (s : State) :
    sendOverflow r s = ret .transmitOverflow (s.emitAll
      (if s.mod.firstFrameSent = true then [report .transmitOverflow (r.ident.setWidth 32)] else [])) := by
  unfold sendOverflow
  split
  · rfl
  · rw [State.emitAll_nil]

theorem sendDirect_of_written {s : State} (h : s.writeAnswer = true) (r : TxSlot) :
    sendDirect r s = ret .ok ((s.askWrite (wireFrame r)).noteWritten r) := if_pos h

theorem sendDirect_of_failed {s : State} (h : s.writeAnswer = false) (r : TxSlot) :
    sendDirect r s = ret .hardwareFailure (s.askWrite (wireFrame r)) := if_neg (by simp [h])

/-- Settles O31: the branch of a full slot. -/
theorem sendOnFullSlotOverflows : Obligations.SendOnFullSlotOverflows := by
  intro s idx hinit hidx hproceeds hfull
  show execSend idx s = _
  rw [execSend_of_full hinit hidx hproceeds hfull, sendOverflow_eq]
  rfl

/-- Settles O32: the branch of the direct write, for both answers of `HTI.write`. -/
theorem sendWritesAtOnceWhenNothingPending : Obligations.SendWritesAtOnceWhenNothingPending := by
  intro s idx hinit hidx hproceeds hfull hfree hcount
  have hexec : exec (.send idx) s = sendDirect (s.mod.txRow idx.toNat) s.askTxFree :=
    execSend_of_free hinit hidx hproceeds hfull hfree hcount
  have hsame := (SameSurroundings.refl s).askTxFree.askWrite (frameOf (s.mod.txRow idx.toNat))
  cases hwrite : s.askTxFree.writeAnswer with
  | true =>
    rw [sendDirect_of_written hwrite] at hexec
    refine ⟨_, hexec, fun _ => ⟨?_, ?_⟩, nofun, (hsame.withMod _).emit _, rfl, rfl⟩
    · simp [State.noteWritten, ModuleState.setSyncAbort]
    · simp [State.noteWritten, frameOf_eq_wireFrame]
  | false =>
    rw [sendDirect_of_failed hwrite] at hexec
    refine ⟨_, hexec, nofun, fun _ => ⟨?_, ?_⟩, hsame.emit _, rfl, rfl⟩
    · simp
    · simp [frameOf_eq_wireFrame]

/-- Settles O33: the branch that queues, below the highest count and at it. -/
theorem sendQueuesOtherwise : Obligations.SendQueuesOtherwise := by
  intro s idx hinit hidx hproceeds hfull hbusy
  have hexec : exec (.send idx) s = enqueue idx.toNat s.askTxFree :=
    execSend_of_busy hinit hidx hproceeds hfull hbusy
  rcases enqueue_cases s.askTxFree idx.toNat with ⟨hmax, henqueue⟩ | ⟨hbelow, henqueue⟩ <;> rw [henqueue] at hexec
  · rw [State.askTxFree_mod] at hmax
    exact ⟨fun hne => absurd hmax hne, fun _ => hexec⟩
  · rw [State.askTxFree_mod] at hbelow
    refine ⟨fun _ => ⟨_, hexec, ?_, ?_, ((SameSurroundings.refl s).askTxFree.withMod _).emit _, rfl, rfl⟩,
      fun hmax => absurd hmax hbelow⟩
    · simp [ModuleState.setTxRow, ModuleState.setCount]
    · simp

/-- Settles O34: the refusal comes first after the common checks. -/
theorem sendOfUnregisteredSlotIsRefused : Obligations.SendOfUnregisteredSlotIsRefused :=
  fun _ _ hinit hidx hrefuse hreg => execSend_of_unregistered hinit hidx hrefuse hreg

/-! ### A SEND that queues (R106) -/

/-- The transmit rows are as in `s`, or a sample of the mailboxes and the result `OK` are all that was put out since. -/
def State.KeepsRowsOrOnlySamples (s t : State) : Prop :=
  t.mod.tx = s.mod.tx ∨ t.trace = s.trace ++ [.htiTxFree, .result .ok]

theorem execSend_keepsRowsOrOnlySamples (idx : SlotIndex) (s : State) :
    NextHolds s.KeepsRowsOrOnlySamples (execSend idx s) := by
  refine .txCommand (.inl rfl) fun _ _ => .refuseWhen fun _ => ?_
  split
  · rw [sendOverflow_eq]
    exact (nextHolds_ret _).mpr (.inl rfl)
  · split
    · unfold sendDirect
      split <;> exact (nextHolds_ret _).mpr (.inl (by simp [State.noteWritten]))
    · rcases enqueue_cases s.askTxFree idx.toNat with ⟨-, he⟩ | ⟨-, he⟩ <;> rw [he]
      · exact nextHolds_refused _
      · exact nextHolds_next.mpr (.inr (by simp))

/-- Settles O39: the slot's row has changed, so the SEND put out the sample and its result only. -/
theorem sendNeverWritesAndQueues : Obligations.SendNeverWritesAndQueues := by
  intro s t idx h hfree hfull
  rcases execSend_keepsRowsOrOnlySamples idx s t h with hrows | htrace
  · have hrow : t.mod.txRow idx.toNat = s.mod.txRow idx.toNat := by rw [ModuleState.txRow, hrows]; rfl
    simp [hrow, hfree] at hfull
  · exact htrace

/-! ### DRAIN (R107, R108, R113) -/

theorem firstFull_eq_some_iff {m : ModuleState} {i : Nat} : firstFull m = some i ↔
    i < m.txCap.toNat ∧ i < m.tx.length ∧ (m.txRow i).full = true ∧ ∀ j < i, (m.txRow j).full = false := by
  refine ⟨firstFull_eq_some, fun ⟨hcap, hlen, hfull, hlower⟩ => ?_⟩
  have hi : i < (rowsInUse m).length := by rw [length_rowsInUse]; omega
  refine List.findIdx?_eq_some_iff_getElem.mpr ⟨hi, by rwa [getElem_rowsInUse], fun j hj => ?_⟩
  rw [getElem_rowsInUse, hlower j hj]
  exact Bool.false_ne_true

theorem firstFull_eq_none_iff {m : ModuleState} :
    firstFull m = none ↔ ∀ j, j < m.txCap.toNat → j < m.tx.length → (m.txRow j).full = false := by
  rw [firstFull, List.findIdx?_eq_none_iff, List.forall_mem_iff_getElem]
  refine forall_congr' fun j => ⟨fun h hcap hlen => ?_, fun h hj => ?_⟩
  · have hj : j < (rowsInUse m).length := by rw [length_rowsInUse]; omega
    rw [← getElem_rowsInUse hj]
    exact h hj
  · have hmin := hj
    rw [length_rowsInUse] at hmin
    rw [getElem_rowsInUse]
    exact h (by omega) (by omega)

section
variable {s : State} (hinit : s.mod.initialised = true)
include hinit

theorem execDrain_of_unconfirmed (hsent : s.mod.firstFrameSent = false) : execDrain s = ret .ok s := by
  rw [execDrain, command_of_initialised hinit, if_neg (by simp [hsent])]

theorem execDrain_of_none (hsent : s.mod.firstFrameSent = true) (hnone : firstFull s.mod = none) :
    execDrain s = ret .ok s := by
  rw [execDrain, command_of_initialised hinit, if_pos hsent, hnone]

theorem execDrain_of_some (hsent : s.mod.firstFrameSent = true) {i : Nat} (hi : firstFull s.mod = some i) :
    execDrain s = drainSlot i s := by
  rw [execDrain, command_of_initialised hinit, if_pos hsent, hi]

end

theorem drainSlot_of_failed {s : State} (h : s.writeAnswer = false) (i : Nat) :
    drainSlot i s = ret .ok (s.askWrite (wireFrame (s.mod.txRow i))) := if_neg (by simp [h])

theorem drainSlot_of_written {s : State} (h : s.writeAnswer = true) (i : Nat) :
    drainSlot i s = dequeueWritten i (s.askWrite (wireFrame (s.mod.txRow i))) := if_pos h

section
variable {s : State}

theorem dequeueWritten_of_zero (h : s.mod.pendingTransmitCount = 0) (i : Nat) :
    dequeueWritten i s = .refused .countBelowZero := if_pos h

theorem dequeueWritten_of_pos (h : s.mod.pendingTransmitCount ≠ 0) (i : Nat) :
    dequeueWritten i s = ret .ok (s.withMod
      (((s.mod.setTxRow i { s.mod.txRow i with full := false }).setCount (s.mod.pendingTransmitCount - 1)).setSyncAbort
        (s.mod.txRow i).syncFlag)) := if_neg h

end

/-- Settles O35: before the first confirmation DRAIN does not look at the rows. -/
theorem drainWaitsForFirstConfirmation : Obligations.DrainWaitsForFirstConfirmation :=
  fun _ hinit hsent => execDrain_of_unconfirmed hinit hsent

/-- Settles O36: the scan finds the row, whose write fails, or succeeds with the count above 0 or at 0; or it finds none. -/
theorem drainSendsLowestFullSlot : Obligations.DrainSendsLowestFullSlot := by
  refine ⟨fun s i hinit hsent hcap hlen hfull hlower => ?_, fun s hinit hsent hnone =>
    execDrain_of_none hinit hsent (firstFull_eq_none_iff.mpr hnone)⟩
  have hdrain : exec .drain s = drainSlot i s :=
    execDrain_of_some hinit hsent (firstFull_eq_some_iff.mpr ⟨hcap, hlen, hfull, hlower⟩)
  have hsame := (SameSurroundings.refl s).askWrite (wireFrame (s.mod.txRow i))
  refine ⟨fun hwrite => ?_, fun hwrite hcount => ?_, fun hwrite hcount => ?_⟩
  · rw [drainSlot_of_failed hwrite] at hdrain
    refine ⟨_, hdrain, ?_, ?_, hsame.emit _, rfl, rfl⟩
    · simp
    · simp [frameOf_eq_wireFrame]
  · rw [drainSlot_of_written hwrite, dequeueWritten_of_pos (by simpa using hcount)] at hdrain
    refine ⟨_, hdrain, ?_, ?_, (hsame.withMod _).emit _, rfl, rfl⟩
    · simp [ModuleState.setTxRow, ModuleState.setCount, ModuleState.setSyncAbort]
    · simp [frameOf_eq_wireFrame]
  · rw [hdrain, drainSlot_of_written hwrite, dequeueWritten_of_zero (by simpa using hcount)]

/-! ### ABORTSYNC (R110, R111) -/

/-- R110: the Module State after ABORTSYNC. -/
def ModuleState.afterAbort (m : ModuleState) : ModuleState :=
  ((m.setSyncAbort false).setTx (abortRows m)).setCount (m.pendingTransmitCount - BitVec.ofNat 16 (numQueuedSync m))

/-- R111: the report of ABORTSYNC, when its code is not 0. -/
def abortCalls (code : Word) : List Output := if code = 0 then [] else [report .syncWindowMissed code]

theorem execAbortsync_of_covered {s : State} (hinit : s.mod.initialised = true)
    (hcount : numQueuedSync s.mod ≤ s.mod.pendingTransmitCount.toNat) :
    execAbortsync s = ret .ok ((s.withMod s.mod.afterAbort).emitAll
      (abortCalls (abortCode s.mod.syncAbortPending (0 < numQueuedSync s.mod)))) := by
  rw [execAbortsync, command_of_initialised hinit, if_neg (Nat.not_lt.mpr hcount), abortCalls]
  dsimp only
  split
  · rw [State.emitAll_nil]
    rfl
  · rfl

/-- R111: the code as a number, case by case. -/
theorem abortCode_eq (marker : Bool) (n : Nat) :
    abortCode marker (0 < n) = if marker = true then (if 0 < n then 3 else 1) else (if 0 < n then 2 else 0) := by
  cases marker <;> by_cases hn : 0 < n <;> simp [abortCode, hn]

theorem ModuleState.afterAbort_txRow (m : ModuleState) (j : Nat) :
    m.afterAbort.txRow j =
      if j < m.txCap.toNat ∧ (m.txRow j).full = true ∧ (m.txRow j).syncFlag = true then { m.txRow j with full := false }
      else m.txRow j := by
  have hrow : m.afterAbort.txRow j = if j < m.txCap.toNat then abortRow (m.txRow j) else m.txRow j :=
    txRow_setTx_abortRows m j
  rw [hrow, abortRow, ite_and]
  simp only [queuedSync, Bool.and_eq_true]

/-- Settles O37: the table row by row, the count without wrapping, and the code case by case. -/
theorem abortsyncClearsQueuedSyncSlots : Obligations.AbortsyncClearsQueuedSyncSlots := by
  rintro s hinit n rfl hcount
  refine ⟨_, execAbortsync_of_covered hinit hcount, s.mod.afterAbort_txRow, abortRows_length s.mod,
    toNat_sub_ofNat hcount, rfl, ?_, (((SameSurroundings.refl s).withMod _).emitAll _).emit _, rfl, rfl⟩
  rintro _ rfl
  rw [State.emit_trace, abortCode_eq]
  rfl

/-! ### TXCONF (R112) -/

/-- Settles O38: its word, the confirmation, and the event that is ignored. -/
theorem txconfConfirmsFirstFrame : Obligations.TxconfConfirmsFirstFrame :=
  ⟨rfl, fun _ hinit => event_of_initialised hinit _, fun _ huninit => event_of_uninitialised huninit _⟩

end Sys2Proof.Machine
end

section
/-! PROOFS of the statements of spec/41_transmit.md, second part: everything an operation can put out, said once, and from it what
is not reported before the first confirmation (R105, R144). -/

namespace Sys2Proof.Machine

/-- What operation `i`, started in `s`, can put on the output ports: one constructor for each kind of output, with the guards
under which it is made (R170, R183 to R186). -/
inductive Emits (s : State) : Instr → Output → Prop
  | ok {i : Instr} (hi : i.port = .command) : Emits s i (.result .ok)
  | rejected {i : Instr} (hi : i.port = .command) : Emits s i (.result .illegalArgument)
  /-- R153. -/
  | rateUnknown {txs rxs : Bool} {rate txcap rxcap : BitVec 16} :
      Emits s (.init txs rxs rate txcap rxcap) (.result .illegalBaudRate)
  /-- R151, R157. -/
  | channelDisabled {i : Instr} (hi : IsInit i ∨ i = .disable) : Emits s i .htiDisable
  /-- R151, R155, R157. -/
  | channelEnabled {i : Instr} (hi : IsInit i ∨ i = .setnormal ∨ i = .disable) : Emits s i .htiEnable
  /-- R156. -/
  | enableFailed : Emits s .setnormal (.result .hardwareFailure)
  /-- R123. -/
  | filterSet {idx : SlotIndex} {rtr : Bool} {id mask : CanId} {ctx cb : Word} :
      Emits s (.regrx idx rtr id mask ctx cb) (.htiSetFilter .standard 0 0)
  /-- R105. -/
  | overflowed {idx : SlotIndex} : Emits s (.send idx) (.result .transmitOverflow)
  /-- R105. -/
  | overflowReported {idx : SlotIndex} {v : Word} (hsent : s.mod.firstFrameSent = true) :
      Emits s (.send idx) (report .transmitOverflow v)
  /-- R106. -/
  | mailboxSampled {idx : SlotIndex} : Emits s (.send idx) .htiTxFree
  /-- R106. -/
  | written {idx : SlotIndex} (hcount : s.mod.pendingTransmitCount = 0) :
      Emits s (.send idx) (.htiWrite (wireFrame (s.mod.txRow idx.toNat)))
  /-- R106. -/
  | writeFailed {idx : SlotIndex} : Emits s (.send idx) (.result .hardwareFailure)
  /-- R108. -/
  | drained {i : Nat} (hsent : s.mod.firstFrameSent = true) (hi : firstFull s.mod = some i) :
      Emits s .drain (.htiWrite (wireFrame (s.mod.txRow i)))
  /-- R111. -/
  | abortReported {code : Word} : Emits s .abortsync (report .syncWindowMissed code)
  /-- R142. -/
  | errorsSampled : Emits s .checkerr .htiErrors
  /-- R142, R144, R145. -/
  | errorReported {c : Condition} {e : Word} (hc : c.number ≤ 3)
      (hpassive : c = .busPassive → s.mod.firstFrameSent = true) : Emits s .checkerr (report c e)
  /-- R142 to R144. -/
  | errorReset {c : Condition} {e : Word} (hc : c.number ≤ 2 ∨ c = clearedOverflow s.params.passiveClears) :
      Emits s .checkerr (.emReset c e)
  /-- R125. -/
  | consumerCalled {rtr : Bool} {dlc : BitVec 4} {id : CanId} {data : Payload} {r : RxSlot} :
      Emits s (.rxframe rtr dlc id data) (.cbInvoke r.cb r.ctx ⟨id, rtr, dlc, data⟩)

/-! ### The calls of CHECKERR (R142) -/

section
variable (s : State) (active : Bool) (e : Word)

theorem emits_warningCall : Emits s .checkerr (warningCall e) := by
  unfold warningCall
  split
  · exact .errorReported (by decide) nofun
  · exact .errorReset (.inl (by decide))

theorem emits_passiveCalls :
    ∀ o ∈ passiveCalls s.params.passiveClears s.mod.firstFrameSent active e, Emits s .checkerr o := by
  unfold passiveCalls
  split
  · split
    next hsent => exact List.forall_mem_singleton.mpr (.errorReported (by decide) fun _ => hsent)
    · nofun
  · split
    · simpa using ⟨Emits.errorReset (.inl (by decide)), Emits.errorReset (.inr rfl)⟩
    · nofun

theorem emits_overflowCalls : ∀ o ∈ overflowCalls e, Emits s .checkerr o := by
  unfold overflowCalls
  split
  · exact List.forall_mem_singleton.mpr (.errorReported (by decide) nofun)
  · nofun

theorem emits_errorCalls :
    ∀ o ∈ errorCalls s.params.passiveClears s.mod.firstFrameSent active e, Emits s .checkerr o := by
  unfold errorCalls
  refine List.forall_mem_append.mpr ⟨?_, emits_overflowCalls s e⟩
  split
  · exact List.forall_mem_singleton.mpr (.errorReported (by decide) nofun)
  · refine List.forall_mem_append.mpr ⟨?_, emits_passiveCalls s active e⟩
    simpa using ⟨Emits.errorReset (.inl (by decide)), emits_warningCall s e⟩

end

/-! ### Outputs through the updates and the parts of operations -/

/-- State `t` has carried what `s` has, and then only outputs of which `P` holds. -/
def State.Carries (s : State) (P : Output → Prop) (t : State) : Prop := ∃ os, t.trace = s.trace ++ os ∧ ∀ o ∈ os, P o

namespace State.Carries
variable {s t : State} {P : Output → Prop}

theorem refl (s : State) (P : Output → Prop) : s.Carries P s := ⟨[], by simp, nofun⟩

theorem of_trace_eq {u : State} (h : s.Carries P t) (hu : u.trace = t.trace) : s.Carries P u := by rwa [Carries, hu]

theorem withMod (h : s.Carries P t) (m : ModuleState) : s.Carries P (t.withMod m) := h.of_trace_eq rfl

theorem withRegistered (h : s.Carries P t) (l : List SlotIndex) : s.Carries P (t.withRegistered l) := h.of_trace_eq rfl

theorem draw (h : s.Carries P t) : s.Carries P t.draw := h.of_trace_eq rfl

theorem emitAll (h : s.Carries P t) {os : List Output} (hos : ∀ o ∈ os, P o) : s.Carries P (t.emitAll os) := by
  obtain ⟨before, htrace, hbefore⟩ := h
  exact ⟨before ++ os, by simp [htrace], List.forall_mem_append.mpr ⟨hbefore, hos⟩⟩

theorem emit (h : s.Carries P t) {o : Output} (ho : P o) : s.Carries P (t.emit o) :=
  h.emitAll (List.forall_mem_singleton.mpr ho)

theorem askEnable (h : s.Carries P t) (ho : P .htiEnable) : s.Carries P t.askEnable := (h.emit ho).of_trace_eq (by simp)

theorem askTxFree (h : s.Carries P t) (ho : P .htiTxFree) : s.Carries P t.askTxFree := (h.emit ho).of_trace_eq (by simp)

theorem askWrite (h : s.Carries P t) {f : Frame} (ho : P (.htiWrite f)) : s.Carries P (t.askWrite f) :=
  (h.emit ho).of_trace_eq (by simp)

theorem askErrors (h : s.Carries P t) (ho : P .htiErrors) : s.Carries P t.askErrors := (h.emit ho).of_trace_eq (by simp)

theorem cycleChannel (h : s.Carries P t) (hdisable : P .htiDisable) (henable : P .htiEnable) :
    s.Carries P t.cycleChannel := (h.emit hdisable).askEnable henable

theorem ret (h : s.Carries P t) {c : Result} (hc : P (.result c)) : NextHolds (s.Carries P) (Machine.ret c t) :=
  (nextHolds_ret c).mpr (h.emit hc)

theorem failedInit (h : s.Carries P t) {c : Result} (hc : P (.result c)) :
    NextHolds (s.Carries P) (Machine.failedInit c t) := ((h.withMod _).withRegistered _).draw.ret hc

theorem enqueue (h : s.Carries P t) (hok : P (.result .ok)) (i : Nat) :
    NextHolds (s.Carries P) (Machine.enqueue i t) := by
  rcases enqueue_cases t i with ⟨-, he⟩ | ⟨-, he⟩ <;> rw [he]
  · exact nextHolds_refused _
  · exact nextHolds_next.mpr ((h.withMod _).emit hok)

theorem dequeueWritten (h : s.Carries P t) (hok : P (.result .ok)) (i : Nat) :
    NextHolds (s.Carries P) (Machine.dequeueWritten i t) := by
  rcases dequeueWritten_cases t i with ⟨-, he⟩ | ⟨-, u, he, rfl⟩ <;> rw [he]
  · exact nextHolds_refused _
  · exact nextHolds_next.mpr ((h.withMod _).emit hok)

end State.Carries

/-! ### Every output of an operation is of the list -/

/-- State `t` has carried what `s` has, and then only what operation `i`, started in `s`, can put out. -/
def State.CarriesOf (s : State) (i : Instr) (t : State) : Prop := s.Carries (Emits s i) t

namespace State.CarriesOf
variable (s : State)

theorem nothing (i : Instr) : s.CarriesOf i s := .refl s _

theorem rejected {i : Instr} (hi : i.port = .command) : s.CarriesOf i (s.emit (.result .illegalArgument)) :=
  (nothing s i).emit (.rejected hi)

theorem execInit (txs rxs : Bool) (rate txcap rxcap : BitVec 16) :
    NextHolds (s.CarriesOf (.init txs rxs rate txcap rxcap)) (Machine.execInit txs rxs rate txcap rxcap s) := by
  have isInit : IsInit (.init txs rxs rate txcap rxcap) := ⟨_, _, _, _, _, rfl⟩
  unfold Machine.execInit
  split
  · split
    · exact (nothing s _).failedInit .rateUnknown
    · exact ((((nothing s _).withMod _).withRegistered _).cycleChannel (.channelDisabled (.inl isInit))
        (.channelEnabled (.inl isInit))).ret (.ok rfl)
  · exact (nothing s _).failedInit (.rejected rfl)

theorem execSetnormal : NextHolds (s.CarriesOf .setnormal) (Machine.execSetnormal s) := by
  have asked := (nothing s .setnormal).askEnable (.channelEnabled (.inr (.inl rfl)))
  refine .command (rejected s rfl) fun _ => (asked.withMod _).ret ?_
  split
  · exact .ok rfl
  · exact .enableFailed

theorem execDisable : NextHolds (s.CarriesOf .disable) (Machine.execDisable s) := by
  have cycled := (nothing s .disable).cycleChannel (.channelDisabled (.inr rfl)) (.channelEnabled (.inr (.inr rfl)))
  exact .command (rejected s rfl) fun _ => (cycled.withMod _).ret (.ok rfl)

theorem execRegrx (idx : SlotIndex) (rtr : Bool) (id mask : CanId) (ctx cb : Word) :
    NextHolds (s.CarriesOf (.regrx idx rtr id mask ctx cb)) (Machine.execRegrx idx rtr id mask ctx cb s) := by
  refine .command (rejected s rfl) fun _ => ?_
  split
  · exact .refuseIf fun _ => (((nothing s _).withMod _).emit .filterSet).ret (.ok rfl)
  · exact (nothing s _).ret (.rejected rfl)

theorem execRegtx (sync : Bool) (idx : SlotIndex) (rtr : Bool) (dlc : BitVec 4) (id : CanId) :
    NextHolds (s.CarriesOf (.regtx sync idx rtr dlc id)) (Machine.execRegtx sync idx rtr dlc id s) :=
  .txCommand (rejected s rfl) fun _ _ => .refuseWhen fun _ => .refuseWhen fun _ =>
    (((nothing s _).withMod _).withRegistered _).ret (.ok rfl)

theorem execTxdata (idx : SlotIndex) (data : Payload) :
    NextHolds (s.CarriesOf (.txdata idx data)) (Machine.execTxdata idx data s) :=
  .txCommand (rejected s rfl) fun _ _ => ((nothing s _).withMod _).ret (.ok rfl)

theorem sendOverflow (idx : SlotIndex) (r : TxSlot) :
    NextHolds (s.CarriesOf (.send idx)) (Machine.sendOverflow r s) := by
  unfold Machine.sendOverflow
  split
  next hsent => exact ((nothing s _).emit (.overflowReported hsent)).ret .overflowed
  · exact (nothing s _).ret .overflowed

theorem sendDirect {idx : SlotIndex} (hcount : s.mod.pendingTransmitCount = 0) :
    NextHolds (s.CarriesOf (.send idx)) (Machine.sendDirect (s.mod.txRow idx.toNat) s.askTxFree) := by
  have written := ((nothing s (.send idx)).askTxFree .mailboxSampled).askWrite (.written hcount)
  unfold Machine.sendDirect
  split
  · exact (written.withMod _).ret (.ok rfl)
  · exact written.ret .writeFailed

theorem execSend (idx : SlotIndex) : NextHolds (s.CarriesOf (.send idx)) (Machine.execSend idx s) := by
  refine .txCommand (rejected s rfl) fun _ _ => .refuseWhen fun _ => ?_
  split
  · exact sendOverflow s idx _
  · split
    next hdirect => exact sendDirect s hdirect.2
    · exact ((nothing s _).askTxFree .mailboxSampled).enqueue (.ok rfl) _

theorem execDrain : NextHolds (s.CarriesOf .drain) (Machine.execDrain s) := by
  refine .command (rejected s rfl) fun _ => ?_
  split
  next hsent =>
    split
    · exact (nothing s _).ret (.ok rfl)
    next i hi =>
      have written := (nothing s .drain).askWrite (.drained hsent hi)
      unfold drainSlot
      split
      · exact written.dequeueWritten (.ok rfl) i
      · exact written.ret (.ok rfl)
  · exact (nothing s _).ret (.ok rfl)

theorem execAbortsync : NextHolds (s.CarriesOf .abortsync) (Machine.execAbortsync s) := by
  refine .command (rejected s rfl) fun _ => ?_
  split
  · exact nextHolds_refused _
  · have cleared := (nothing s .abortsync).withMod s.mod.afterAbort
    refine State.Carries.ret ?_ (.ok rfl)
    split
    · exact cleared
    · exact cleared.emit .abortReported

theorem noteErrors (e : Word) : s.CarriesOf .checkerr (Machine.noteErrors e s.askErrors) := by
  have sampled := (nothing s .checkerr).askErrors .errorsSampled
  by_cases he : e = s.askErrors.mod.lastErrorBitmap
  · rw [noteErrors_unchanged _ he]
    exact sampled
  · rw [noteErrors_changed _ he, State.askErrors_params, State.askErrors_mod]
    exact (sampled.withMod _).emitAll (emits_errorCalls s _ e)

theorem execCheckerr : NextHolds (s.CarriesOf .checkerr) (Machine.execCheckerr s) :=
  .command (rejected s rfl) fun _ => (noteErrors s _).ret (.ok rfl)

theorem execRxframe (rtr : Bool) (dlc : BitVec 4) (id : CanId) (data : Payload) :
    NextHolds (s.CarriesOf (.rxframe rtr dlc id data)) (Machine.execRxframe rtr dlc id data s) := by
  have buffered := (nothing s (.rxframe rtr dlc id data)).withMod (s.mod.setRxBuf ⟨id, rtr, dlc, data⟩)
  refine .event (nothing s _) fun _ => .refuseIf fun _ => nextHolds_next.mpr ?_
  split
  · exact buffered
  · rw [State.dispatch_eq]
    split
    · exact buffered
    · exact (buffered.withMod _).emit .consumerCalled

theorem execTxconf : NextHolds (s.CarriesOf .txconf) (Machine.execTxconf s) :=
  .event (nothing s _) fun _ => nextHolds_next.mpr ((nothing s _).withMod _)

theorem execCbret : NextHolds (s.CarriesOf .cbret) (Machine.execCbret s) :=
  .event (nothing s _) fun _ => nextHolds_next.mpr ((nothing s _).withMod _)

theorem exec (i : Instr) : NextHolds (s.CarriesOf i) (Machine.exec i s) := by
  cases i with
  | init txs rxs rate txcap rxcap => exact execInit s txs rxs rate txcap rxcap
  | setnormal => exact execSetnormal s
  | disable => exact execDisable s
  | regrx idx rtr id mask ctx cb => exact execRegrx s idx rtr id mask ctx cb
  | regtx sync idx rtr dlc id => exact execRegtx s sync idx rtr dlc id
  | txdata idx data => exact execTxdata s idx data
  | send idx => exact execSend s idx
  | drain => exact execDrain s
  | abortsync => exact execAbortsync s
  | checkerr => exact execCheckerr s
  | rxframe rtr dlc id data => exact execRxframe s rtr dlc id data
  | txconf => exact execTxconf s
  | cbret => exact execCbret s

end State.CarriesOf

/-- Everything an operation can put out. -/
theorem exec_emits {i : Instr} {s t : State} {os : List Output} (h : exec i s = .next t)
    (htrace : t.trace = s.trace ++ os) :
    ∀ o ∈ os, Emits s i o := by
  obtain ⟨os', htrace', hos'⟩ := State.CarriesOf.exec s i t h
  rwa [List.append_cancel_left (htrace.symm.trans htrace')]

/-! ### Reports before the first confirmation (R105, R144) -/

namespace Emits
variable {s : State} {i : Instr} {sub v : Word}

theorem sent_of_transmitOverflow (h : Emits s i (.emReport .transmitOverflow sub v)) : s.mod.firstFrameSent = true := by
  cases h with
  | overflowReported hsent => exact hsent
  | errorReported hc => exact absurd hc (by decide)

theorem sent_of_busPassive (h : Emits s i (.emReport .busPassive sub v)) : s.mod.firstFrameSent = true := by
  cases h with
  | errorReported _ hpassive => exact hpassive rfl

end Emits

/-- Settles O47: both reports are made only once `firstFrameSent` is 1. -/
theorem noEarlyOverflowOrPassiveReport : Obligations.NoEarlyOverflowOrPassiveReport := by
  intro i s t os h hunsent htrace sub v
  have hnot : ¬ s.mod.firstFrameSent = true := by simp [hunsent]
  exact ⟨fun ho => hnot (exec_emits h htrace _ ho).sent_of_transmitOverflow,
    fun ho => hnot (exec_emits h htrace _ ho).sent_of_busPassive⟩

end Sys2Proof.Machine
end

section
/-! PROOFS of the statements of spec/42_receive.md: what REGRX answers for legal and for bad arguments (R121 to R123), the match
predicate bit by bit (R127), and RXFRAME and CBRET (R124 to R134). RXFRAME's scan and its null-callback test together name one
row, whose callback is invoked, or none; the statements about RXFRAME are read off that row. -/

namespace Sys2Proof.Machine

open Claims (takesFrame)

/-! ### REGRX (R121 to R123) -/

theorem ModuleState.rxRow_setRxRow_self {m : ModuleState} {i : Nat} (h : i < m.rx.length) (r : RxSlot) :
    (m.setRxRow i r).rxRow i = r := by
  simp [rxRow_setRxRow, h]

theorem State.emit_emit (s : State) (o o' : Output) : (s.emit o).emit o' = s.emitAll [o, o'] := by
  simp [emit, emitAll]

section
variable {s : State} {idx : SlotIndex} {ctx cb : Word} (rtr : Bool) (id mask : CanId)

theorem execRegrx_of_legal (hinit : s.mod.initialised = true) (hidx : idx.toNat < s.mod.rxCap.toNat) (hctx : ctx ≠ 0)
    (hcb : cb ≠ 0) (hfilter : s.mod.hardwareFilteringEnabled = false) :
    execRegrx idx rtr id mask ctx cb s =
      ret .ok ((s.withMod (s.mod.setRxRow idx.toNat
        ⟨encId id rtr, encMask s.params.maskRtr mask rtr, ctx, cb⟩)).emit (.htiSetFilter .standard 0 0)) := by
  rw [execRegrx, command_of_initialised hinit, if_pos ⟨hidx, hctx, hcb⟩, hfilter, refuseIf_false]

/-- A null handle fails as an uninitialised block does. -/
theorem execRegrx_of_null (h : ctx = 0 ∨ cb = 0) :
    execRegrx idx rtr id mask ctx cb s = ret .illegalArgument s := by
  rw [execRegrx, if_neg fun ⟨_, hctx, hcb⟩ => h.elim hctx hcb, command_ret_illegalArgument]

end

/-- Settles O19: with legal arguments one row is written, then the filter is set. -/
theorem regrxWritesRowAndInstallsFilter : Obligations.RegrxWritesRowAndInstallsFilter := by
  intro s idx rtr id mask ctx cb hinit hidx hctx hcb hfilter
  exact ⟨_, execRegrx_of_legal rtr id mask hinit hidx hctx hcb hfilter, State.emit_emit _ _ _,
    fun hlen => ModuleState.rxRow_setRxRow_self hlen _, fun j hj => ModuleState.rxRow_setRxRow_ne hj.symm _⟩

/-- Settles O20, bad argument by bad argument. -/
theorem regrxRejectsBadArguments : Obligations.RegrxRejectsBadArguments := by
  intro s idx rtr id mask ctx cb hbad
  rcases hbad with hbeyond | hctx | hcb | huninit
  · exact execRegrx_of_beyond hbeyond rtr id mask ctx cb
  · exact execRegrx_of_null rtr id mask (.inl hctx)
  · exact execRegrx_of_null rtr id mask (.inr hcb)
  · exact command_of_uninitialised huninit _

/-! ### The match predicate bit by bit (R127) -/

/-- Masked bits agree, unmasked bits are don't-care (R125). -/
theorem xor_and_eq_zero_iff {n : Nat} (a b m : BitVec n) :
    (a ^^^ b) &&& m = 0 ↔ ∀ k < n, m.getLsbD k = true → a.getLsbD k = b.getLsbD k := by
  rw [BitVec.eq_of_getLsbD_eq_iff]
  refine forall₂_congr fun k _ => ?_
  rw [BitVec.getLsbD_and, BitVec.getLsbD_xor]
  cases m.getLsbD k <;> simp

section
variable (m : CanId) (b : Bool)

/-! An encoded value bit by bit: 0, the remote bit, and the identifier from bit 2 upward (R12). -/

theorem getLsbD_encId_zero : (encId m b).getLsbD 0 = false := by
  simp [encId]

theorem getLsbD_encId_one : (encId m b).getLsbD 1 = b := decRtr_encId m b

theorem getLsbD_encId_add_two (k : Nat) : (encId m b).getLsbD (k + 2) = m.getLsbD k := by
  have hid : (4 * m.toNat + 2 * b.toNat) / 2 ^ 2 = m.toNat := by have hb := b.toNat_le; omega
  rw [BitVec.getLsbD, encId_toNat, Nat.testBit_add, hid, BitVec.getLsbD]

end

theorem encId_agree_iff (id rid m : CanId) (b rb mb : Bool) :
    (encId id b ^^^ encId rid rb) &&& encId m mb = 0 ↔
      (∀ k < 11, m.getLsbD k = true → id.getLsbD k = rid.getLsbD k) ∧ (mb = true → b = rb) := by
  rw [xor_and_eq_zero_iff]
  constructor
  · intro h
    refine ⟨fun k hk => ?_, ?_⟩
    · simpa only [getLsbD_encId_add_two] using h (k + 2) (by omega)
    · simpa only [getLsbD_encId_one] using h 1 (by decide)
  · rintro ⟨hid, hrtr⟩ k -
    match k with
    | 0 => simp only [getLsbD_encId_zero, implies_true]
    | 1 => simpa only [getLsbD_encId_one] using hrtr
    | k + 2 =>
      simp only [getLsbD_encId_add_two]
      exact fun hm => hid k (BitVec.lt_of_getLsbD hm) hm

/-- Settles O22: the remote bit of the mask is the row's own under `FOLD`, and 1 under `ALWAYS_ONE`. -/
theorem matchIsAgreementOnMaskedBits : Obligations.MatchIsAgreementOnMaskedBits := by
  intro k id rid m rtr rrtr
  cases k with
  | fold =>
    refine (encId_agree_iff id rid m rtr rrtr rrtr).trans (and_congr_right fun _ => ?_)
    cases rtr <;> simp
  | alwaysOne =>
    refine (encId_agree_iff id rid m rtr rrtr true).trans (and_congr_right fun _ => ?_)
    simp

/-! ### The scan (R125, R126, R134) -/

theorem rowTakes_iff {k : RxNullCb} {e : Encoded} {r : RxSlot} : rowTakes k e r = true ↔ takesFrame k e r := by
  cases k <;> simp [rowTakes, rowMatches, takesFrame]

/-- The two readings of a null callback differ at rows without one only. -/
theorem takesFrame_skip_of_registered {e : Encoded} {r : RxSlot} (h : r.cb ≠ 0) :
    takesFrame .skip e r ↔ takesFrame .matchAndDrop e r :=
  ⟨fun ⟨_, hagree⟩ => ⟨nofun, hagree⟩, fun ⟨_, hagree⟩ => ⟨fun _ => h, hagree⟩⟩

section
variable {k : RxNullCb} {m : ModuleState} {e : Encoded} {i : Nat}

theorem ModuleState.rxRow_eq_getElem (h : i < m.rx.length) : m.rxRow i = m.rx[i] :=
  List.getD_eq_getElem _ _ h

theorem firstMatch_eq_some_iff : firstMatch k m e = some i ↔
    i < m.rxCap.toNat ∧ i < m.rx.length ∧ takesFrame k e (m.rxRow i) ∧ ∀ j < i, ¬ takesFrame k e (m.rxRow j) := by
  simp only [← rowTakes_iff, Bool.not_eq_true]
  refine ⟨firstMatch_eq_some, fun ⟨hcap, hlen, htakes, hlower⟩ => ?_⟩
  refine List.findIdx?_eq_some_iff_getElem.mpr ⟨by simp [hcap, hlen], ?_, fun j hj => ?_⟩
  · rwa [List.getElem_take, ← ModuleState.rxRow_eq_getElem]
  · rw [List.getElem_take, ← ModuleState.rxRow_eq_getElem, hlower j hj]
    exact Bool.false_ne_true

theorem firstMatch_eq_none (h : ∀ j, j < m.rxCap.toNat → j < m.rx.length → ¬ takesFrame k e (m.rxRow j)) :
    firstMatch k m e = none := by
  refine Option.eq_none_iff_forall_ne_some.mpr fun i hi => ?_
  obtain ⟨hcap, hlen, htakes, -⟩ := firstMatch_eq_some_iff.mp hi
  exact h i hcap hlen htakes

/-! ### The row whose callback RXFRAME invokes -/

/-- The row the scan finds, if its callback is non-null (R125, R126). -/
def calledRow (k : RxNullCb) (m : ModuleState) (e : Encoded) : Option Nat :=
  (firstMatch k m e).filter fun i => (m.rxRow i).cb ≠ 0

theorem calledRow_eq_some_iff : calledRow k m e = some i ↔ firstMatch k m e = some i ∧ (m.rxRow i).cb ≠ 0 := by
  simp [calledRow, Option.filter_eq_some_iff]

theorem calledRow_eq_none_iff :
    calledRow k m e = none ↔ firstMatch k m e = none ∨ ∃ i, firstMatch k m e = some i ∧ (m.rxRow i).cb = 0 := by
  cases h : firstMatch k m e <;> simp [calledRow, h, Option.filter_some]

/-- Without gaps every row below one with a callback has a callback, so `SKIP` skips none of the rows that decide (R126). -/
theorem calledRow_skip_of_noGaps (h : NoGaps m) : calledRow .skip m e = calledRow .matchAndDrop m e := by
  ext i
  rw [calledRow_eq_some_iff, calledRow_eq_some_iff, firstMatch_eq_some_iff, firstMatch_eq_some_iff]
  refine and_congr_left fun hcb => and_congr_right fun hcap => and_congr_right fun _ => ?_
  exact and_congr (takesFrame_skip_of_registered hcb)
    (forall₂_congr fun j hj => not_congr (takesFrame_skip_of_registered (h j i hj hcap hcb)))

end

/-! ### RXFRAME (R124 to R130) -/

theorem execRxframe_of_uninitialised {s : State} (huninit : s.mod.initialised = false) (rtr : Bool) (dlc : BitVec 4)
    (id : CanId) (data : Payload) : execRxframe rtr dlc id data s = .next s :=
  event_of_uninitialised huninit _

section
variable {s : State} (hinit : s.mod.initialised = true) (rtr : Bool) (dlc : BitVec 4) (id : CanId) (data : Payload)
include hinit

theorem execRxframe_of_busy (hbusy : s.mod.rxBusy = true) :
    execRxframe rtr dlc id data s = .refused .dispatchInFlight := by
  rw [execRxframe, event_of_initialised hinit, hbusy, refuseIf_true]

section
variable (hidle : s.mod.rxBusy = false)
include hidle

theorem execRxframe_of_called {i : Nat} (hcalled : calledRow s.params.rxNullCb s.mod (encId id rtr) = some i) :
    execRxframe rtr dlc id data s =
      .next ((s.withMod ((s.mod.setRxBuf ⟨id, rtr, dlc, data⟩).setRxBusy true)).emit
        (.cbInvoke (s.mod.rxRow i).cb (s.mod.rxRow i).ctx ⟨id, rtr, dlc, data⟩)) := by
  obtain ⟨hi, hcb⟩ := calledRow_eq_some_iff.mp hcalled
  rw [execRxframe, event_of_initialised hinit, hidle, refuseIf_false, hi]
  exact congrArg _ (if_neg hcb)

theorem execRxframe_of_not_called (hnone : calledRow s.params.rxNullCb s.mod (encId id rtr) = none) :
    execRxframe rtr dlc id data s = .next (s.withMod (s.mod.setRxBuf ⟨id, rtr, dlc, data⟩)) := by
  rw [execRxframe, event_of_initialised hinit, hidle, refuseIf_false]
  rcases calledRow_eq_none_iff.mp hnone with hi | ⟨i, hi, hcb⟩ <;> rw [hi]
  exact congrArg _ (if_pos hcb)

end

end

/-- Settles O23: the scan finds the row, and its callback is invoked. -/
theorem rxframeInvokesLowestMatchingRow : Obligations.RxframeInvokesLowestMatchingRow := by
  intro s rtr dlc id data i hinit hidle hcap hlen htakes hlower hcb
  exact execRxframe_of_called hinit rtr dlc id data hidle
    (calledRow_eq_some_iff.mpr ⟨firstMatch_eq_some_iff.mpr ⟨hcap, hlen, htakes, hlower⟩, hcb⟩)

/-- Settles O24: the scan finds no row, or one without a callback. -/
theorem rxframeDropsUnmatchedFrame : Obligations.RxframeDropsUnmatchedFrame := by
  intro s rtr dlc id data hinit hidle hdrop
  refine execRxframe_of_not_called hinit rtr dlc id data hidle (calledRow_eq_none_iff.mpr ?_)
  rcases hdrop with hnone | ⟨i, hcap, hlen, hcb, htakes, hlower⟩
  · exact .inl (firstMatch_eq_none hnone)
  · exact .inr ⟨i, firstMatch_eq_some_iff.mpr ⟨hcap, hlen, htakes, hlower⟩, hcb⟩

/-- Settles O25: the block is initialised, so what is left is the refusal. -/
theorem rxframeDuringDispatchIsRefused : Obligations.RxframeDuringDispatchIsRefused :=
  fun _ rtr dlc id data hinit hbusy => execRxframe_of_busy hinit rtr dlc id data hbusy

/-! ### The two readings of a null callback (R126) -/

/-- The state with another value of `RX_NULL_CB`. -/
def State.reading (s : State) (k : RxNullCb) : State := { s with params := { s.params with rxNullCb := k } }

/-- `RX_NULL_CB` matters to RXFRAME only as far as it decides whose callback is invoked. -/
theorem execRxframe_reading {s : State} {k : RxNullCb} {rtr : Bool} {id : CanId}
    (hsame : calledRow k s.mod (encId id rtr) = calledRow s.params.rxNullCb s.mod (encId id rtr)) (dlc : BitVec 4)
    (data : Payload) :
    NextHolds (fun t => execRxframe rtr dlc id data (s.reading k) = .next (t.reading k))
      (execRxframe rtr dlc id data s) := by
  cases hinit : s.mod.initialised with
  | false =>
    rw [execRxframe_of_uninitialised hinit, nextHolds_next]
    exact execRxframe_of_uninitialised (s := s.reading k) hinit rtr dlc id data
  | true =>
    cases hbusy : s.mod.rxBusy with
    | true =>
      rw [execRxframe_of_busy hinit rtr dlc id data hbusy]
      exact nextHolds_refused _
    | false =>
      cases hcalled : calledRow s.params.rxNullCb s.mod (encId id rtr) with
      | none =>
        rw [execRxframe_of_not_called hinit rtr dlc id data hbusy hcalled, nextHolds_next]
        exact execRxframe_of_not_called (s := s.reading k) hinit rtr dlc id data hbusy (hsame.trans hcalled)
      | some i =>
        rw [execRxframe_of_called hinit rtr dlc id data hbusy hcalled, nextHolds_next]
        exact execRxframe_of_called (s := s.reading k) hinit rtr dlc id data hbusy (hsame.trans hcalled)

/-- Settles O27: without gaps both readings invoke the callback of the same row, or of none. -/
theorem nullRowReadingsAgreeWithoutGaps : Obligations.NullRowReadingsAgreeWithoutGaps := by
  intro s t u rtr dlc id data hgaps ht hu
  have hskip : execRxframe rtr dlc id data (s.reading .skip) = .next (t.reading .skip) :=
    execRxframe_reading (s := s.reading .matchAndDrop) (k := .skip) (calledRow_skip_of_noGaps hgaps) dlc data t ht
  obtain rfl : t.reading .skip = u := Host.Outcome.next.inj (hskip.symm.trans hu)
  exact ⟨rfl, rfl⟩

/-! ### CBRET (R131) -/

/-- Settles O26: its word, the cleared flag, and the event that is ignored. -/
theorem cbretClearsBusy : Obligations.CbretClearsBusy :=
  ⟨rfl, fun _ hinit => event_of_initialised hinit _, fun _ huninit => event_of_uninitialised huninit _⟩

end Sys2Proof.Machine
end

section
/-! PROOFS of the statements of spec/43_error_monitor.md: CHECKERR on a changed bitmap, on an unchanged one and before INIT (R142,
R146). The statements spell the EM calls on their own, so the model's spelling of them is shown equal first. -/

namespace Sys2Proof.Machine

open Claims (monitorPassiveCalls monitorCalls monitorPassive AnswersAsIn)

/-! ### The two spellings of R142 -/

section
variable (k : PassiveClears) (sent active : Bool) (e : Word)

theorem monitorPassiveCalls_eq_passiveCalls : monitorPassiveCalls k sent active e = passiveCalls k sent active e := by
  cases k <;> rfl

theorem monitorCalls_eq_errorCalls : monitorCalls k sent active e = errorCalls k sent active e := by
  simp only [monitorCalls, errorCalls, overflowCalls, errRovf, Bool.or_eq_true, monitorPassiveCalls_eq_passiveCalls]
  rfl

theorem monitorPassive_eq_passiveAfter : monitorPassive sent active e = passiveAfter sent active e := by
  cases sent <;> rfl

end

/-! ### What a sampled bitmap leaves -/

section
variable (e : Word) (s : State)

/-- Changed or not, the sampled bitmap is the stored one afterwards. -/
theorem noteErrors_lastErrorBitmap : (noteErrors e s).mod.lastErrorBitmap = e := by
  by_cases he : e = s.mod.lastErrorBitmap
  · rw [noteErrors_unchanged s he, he]
  · rw [noteErrors_changed s he]
    rfl

theorem noteErrors_initialised : (noteErrors e s).mod.initialised = s.mod.initialised := by
  by_cases he : e = s.mod.lastErrorBitmap
  · rw [noteErrors_unchanged s he]
  · rw [noteErrors_changed s he]
    rfl

end

theorem SameSurroundings.askErrors {s t : State} (h : SameSurroundings s t) : SameSurroundings s t.askErrors := by
  simpa [SameSurroundings] using h

/-! ### CHECKERR, branch by branch (R142) -/

section
variable {s : State} (hinit : s.mod.initialised = true)
include hinit

theorem execCheckerr_of_initialised : execCheckerr s = ret .ok (noteErrors s.errorsAnswer s.askErrors) :=
  command_of_initialised hinit _

theorem execCheckerr_of_unchanged (h : s.errorsAnswer = s.mod.lastErrorBitmap) : execCheckerr s = ret .ok s.askErrors := by
  rw [execCheckerr_of_initialised hinit, noteErrors_unchanged _ (by rwa [State.askErrors_mod])]

theorem execCheckerr_of_changed (h : s.errorsAnswer ≠ s.mod.lastErrorBitmap) :
    execCheckerr s = ret .ok ((s.askErrors.withMod ((s.mod.setLastErrors s.errorsAnswer).setPassive
      (passiveAfter s.mod.firstFrameSent s.mod.passiveActive s.errorsAnswer))).emitAll
        (errorCalls s.params.passiveClears s.mod.firstFrameSent s.mod.passiveActive s.errorsAnswer)) := by
  rw [execCheckerr_of_initialised hinit, noteErrors_changed _ (by rwa [State.askErrors_mod]), State.askErrors_mod,
    State.askErrors_params]

/-- R146: an equal sample is asked for, answered with `OK`, and nothing else. -/
theorem checkerr_silent_of_unchanged (h : s.errorsAnswer = s.mod.lastErrorBitmap) :
    ∃ t, exec .checkerr s = .next t ∧ t.mod = s.mod ∧ t.trace = s.trace ++ [.htiErrors, .result .ok] ∧
      SameSurroundings s t ∧ AnswersAsIn s.askErrors t :=
  ⟨_, execCheckerr_of_unchanged hinit h, by simp, by simp, (SameSurroundings.refl s).askErrors.emit _, rfl, rfl⟩

end

/-- Settles O40: its word, the branch that notes a new bitmap, the silent one, and the failed common check. -/
theorem checkerrFollowsBitmapChanges : Obligations.CheckerrFollowsBitmapChanges := by
  refine ⟨rfl, ?_, fun s hinit hsame => checkerr_silent_of_unchanged hinit hsame,
    fun s huninit => command_of_uninitialised huninit _⟩
  rintro s _ hinit rfl hchanged
  refine ⟨_, execCheckerr_of_changed hinit hchanged, ?_, ?_,
    (((SameSurroundings.refl s).askErrors.withMod _).emitAll _).emit _, rfl, rfl⟩
  · rw [monitorPassive_eq_passiveAfter]
    rfl
  · rw [monitorCalls_eq_errorCalls]
    simp

/-- Settles O41: the first CHECKERR leaves its sample as the stored bitmap, so for the second it is unchanged. -/
theorem secondCheckerrWithSameSampleIsSilent : Obligations.SecondCheckerrWithSameSampleIsSilent := by
  intro s t hinit h hsample
  obtain rfl : (noteErrors s.errorsAnswer s.askErrors).emit (.result .ok) = t :=
    Host.Outcome.next.inj ((execCheckerr_of_initialised hinit).symm.trans h)
  refine checkerr_silent_of_unchanged ?_ ?_
  · rw [State.emit_mod, noteErrors_initialised, State.askErrors_mod, hinit]
  · rw [hsample, State.emit_mod, noteErrors_lastErrorBitmap]

end Sys2Proof.Machine
end

section
/-! PROOFS of the statements of spec/44_lifecycle.md: INIT when it succeeds and when it fails (R151 to R154), SETNORMAL (R155) and
DISABLE (R157). INIT has one equation per branch, and the requests of INIT and DISABLE are the one cycle of the channel. -/

namespace Sys2Proof.Machine

open Claims (AnswersAsIn)

/-! ### What a request of `HTI.enable` leaves and uses up (R182, log entry 5) -/

section
variable {s t : State}

theorem SameSurroundings.askEnable (h : SameSurroundings s t) : SameSurroundings s t.askEnable := by
  simpa [SameSurroundings] using h

theorem SameSurroundings.cycleChannel (h : SameSurroundings s t) : SameSurroundings s t.cycleChannel :=
  (h.emit _).askEnable

/-- What a request uses up depends on the answers to come and the count of draws only. -/
theorem answersAsIn_askEnable (h : AnswersAsIn s t) : AnswersAsIn s.askEnable t.askEnable := by
  obtain ⟨hanswers, hdraws⟩ := h
  refine ⟨by simp [hanswers], ?_⟩
  cases hqueue : s.answers.enable with
  | nil => simp [State.askEnable_of_none, hqueue, hanswers, hdraws]
  | cons a q => simp [State.askEnable_of_supplied (a := a) (q := q), hqueue, hanswers, hdraws]

/-- Of the two requests of a cycle only `HTI.enable` has an answer. -/
theorem answersAsIn_cycleChannel (h : AnswersAsIn s t) : AnswersAsIn s.askEnable t.cycleChannel :=
  answersAsIn_askEnable (t := t.emit .htiDisable) h

end

/-! ### The arguments and the rate of INIT (R152, R153) -/

section
variable {p : Params} {txs rxs : Bool} {txcap rxcap : BitVec 16}

theorem initArgumentsOk_iff : initArgumentsOk p txs rxs txcap rxcap = true ↔
    txs = true ∧ rxs = true ∧ rxcap.toNat ≤ p.rxMax.val ∧ txcap.toNat ≤ p.txMax.val := by
  simp only [initArgumentsOk, Bool.and_eq_true, decide_eq_true_eq, and_assoc]
  exact and_left_comm

theorem initArgumentsOk_eq_false_iff : initArgumentsOk p txs rxs txcap rxcap = false ↔
    txs = false ∨ rxs = false ∨ p.rxMax.val < rxcap.toNat ∨ p.txMax.val < txcap.toNat := by
  simp only [← Bool.not_eq_true, initArgumentsOk_iff, not_and_or, Nat.not_le]

end

/-- A capacity within a physical depth fits the 9 bits of its register (R41). -/
theorem toNat_setWidth_nine {c : BitVec 16} {depth : Fin 257} (h : c.toNat ≤ depth.val) : (c.setWidth 9).toNat = c.toNat := by
  have hdepth := depth.isLt
  rw [BitVec.toNat_setWidth]
  omega

/-- R153: the recognised bit-rates, each with its number. -/
def rateTable : List (BitVec 16 × Rate) :=
  [(1000, .r1000), (500, .r500), (250, .r250), (125, .r125), (100, .r100), (50, .r50), (20, .r20), (10, .r10)]

theorem rateOf_of_mem : ∀ entry ∈ rateTable, rateOf entry.1 = some entry.2 := by decide

theorem rateOf_of_not_mem {rate : BitVec 16} (h : rate ∉ rateTable.map Prod.fst) : rateOf rate = none := by
  simp only [rateTable, List.map_cons, List.map_nil, List.mem_cons, List.not_mem_nil, or_false, not_or] at h
  simp only [rateOf, h, if_false]

/-! ### INIT, branch by branch (R151 to R154) -/

section
variable {s : State} {txs rxs : Bool} {rate txcap rxcap : BitVec 16}

theorem execInit_of_badArguments (hargs : initArgumentsOk s.params txs rxs txcap rxcap = false) :
    execInit txs rxs rate txcap rxcap s = failedInit .illegalArgument s := by
  rw [execInit, if_neg (by simp [hargs])]

variable (hargs : initArgumentsOk s.params txs rxs txcap rxcap = true)
include hargs

theorem execInit_of_badRate (hrate : rateOf rate = none) :
    execInit txs rxs rate txcap rxcap s = failedInit .illegalBaudRate s := by
  rw [execInit, if_pos hargs, hrate]

/-- The requests do not read the Module State, so it may as well be written after them. -/
theorem execInit_of_legal {r : Rate} (hrate : rateOf rate = some r) :
    execInit txs rxs rate txcap rxcap s =
      ret .ok ((s.withRegistered []).cycleChannel.withMod (s.mod.afterInit s.params r txcap rxcap)) := by
  rw [execInit, if_pos hargs, hrate, ← State.cycleChannel_withMod]
  rfl

end

/-- Settles O14: with legal arguments and a rate of the table everything is reset and the channel is cycled. -/
theorem initResetsEverything : Obligations.InitResetsEverything := by
  intro s rate r txcap rxcap hrate hrxcap htxcap
  have hexec := execInit_of_legal (initArgumentsOk_iff.mpr ⟨rfl, rfl, hrxcap, htxcap⟩) (rateOf_of_mem (rate, r) hrate)
  refine ⟨_, hexec, rfl, toNat_setWidth_nine hrxcap, toNat_setWidth_nine htxcap, rfl, rfl, rfl, rfl, rfl, rfl, rfl, rfl, rfl,
    rfl, rfl, rfl, ?trace, ?params, ?cmdIn, ?evIn, ?txRegistered, answersAsIn_cycleChannel ⟨rfl, rfl⟩⟩
  all_goals simp

/-- R154: everything a failed INIT leaves specified. -/
theorem failedInit_leaves (c : Result) (s : State) :
    ∃ t, failedInit c s = .next t ∧ t.mod.initialised = false ∧ t.trace = s.trace ++ [.result c] ∧
      t.answers = s.answers ∧ t.draws = s.draws + 1 ∧ t.params = s.params ∧ t.cmdIn = s.cmdIn ∧
      t.evIn = s.evIn ∧ t.txRegistered = [] :=
  ⟨_, rfl, rfl, rfl, rfl, rfl, rfl, rfl, rfl, rfl⟩

/-- Settles O15: the argument check fails, or it passes and the rate check fails. -/
theorem failedInitTouchesNoHardware : Obligations.FailedInitTouchesNoHardware := by
  refine ⟨fun s txs rxs rate txcap rxcap hbad => ?_, fun s rate txcap rxcap hrxcap htxcap hrate => ?_⟩
  · have hexec : exec (.init txs rxs rate txcap rxcap) s = failedInit .illegalArgument s :=
      execInit_of_badArguments (initArgumentsOk_eq_false_iff.mpr hbad)
    rw [hexec]
    exact failedInit_leaves _ s
  · have hexec : exec (.init true true rate txcap rxcap) s = failedInit .illegalBaudRate s :=
      execInit_of_badRate (initArgumentsOk_iff.mpr ⟨rfl, rfl, hrxcap, htxcap⟩) (rateOf_of_not_mem hrate)
    rw [hexec]
    exact failedInit_leaves _ s

/-! ### SETNORMAL (R155) -/

/-- Settles O16: its word, the request whose answer is stored and returned, and the failed common check. -/
theorem setnormalFollowsEnableAnswer : Obligations.SetnormalFollowsEnableAnswer := by
  refine ⟨rfl, fun s hinit => ?_, fun s huninit => command_of_uninitialised huninit _⟩
  exact ⟨_, command_of_initialised hinit _, rfl, by simp, ((SameSurroundings.refl s).askEnable.withMod _).emit _, rfl, rfl⟩

/-! ### DISABLE (R157) -/

/-- What DISABLE does on an initialised block, whether or not one came before it. -/
theorem disable_of_initialised {s : State} (hinit : s.mod.initialised = true) :
    ∃ t, exec .disable s = .next t ∧ t.mod = { s.mod with normalModeActive := false } ∧
      t.trace = s.trace ++ [.htiDisable, .htiEnable, .result .ok] ∧ SameSurroundings s t ∧ AnswersAsIn s.askEnable t :=
  ⟨_, command_of_initialised hinit _, rfl, by simp, ((SameSurroundings.refl s).cycleChannel.withMod _).emit _,
    answersAsIn_cycleChannel ⟨rfl, rfl⟩⟩

/-- Settles O17: a DISABLE leaves the block initialised, so a second one does the same, and the flag is cleared already. -/
theorem disableCyclesChannel : Obligations.DisableCyclesChannel := by
  refine ⟨rfl, fun s hinit => ?_, fun s huninit => command_of_uninitialised huninit _⟩
  obtain ⟨t, ht, htmod, httrace, htsame, htanswers⟩ := disable_of_initialised hinit
  have htinit : t.mod.initialised = true := by rw [htmod, hinit]
  obtain ⟨u, hu, humod, hutrace, husame, huanswers⟩ := disable_of_initialised htinit
  have hagain : u.mod = t.mod := by rw [humod, htmod]
  exact ⟨t, ht, htmod, httrace, htsame, htanswers, u, hu, hagain, hutrace, husame, huanswers⟩

end Sys2Proof.Machine
end

section
/-! PROOFS of the statements of spec/60_exceptions.md: the uninitialised block (R173), the choice between a ready command and a
ready event (R177), progress under the literal policy (R172, log entry 2), and which operation gives which result code (R170,
R171) and reports or resets which condition (R184), both read off the list of outputs. -/

namespace Sys2Proof.Machine

open Claims (isResult commandTaken eventTaken)

/-! ### The uninitialised block (R173) -/

/-- Settles O12: every operation but INIT is treated as an illegal one of its port, and INIT is no event. -/
theorem uninitialisedBlockDoesNothing : Obligations.UninitialisedBlockDoesNothing := by
  intro i s huninit
  refine ⟨fun hport hi => ?_, fun hport => ?_⟩
  · rw [exec_of_uninitialised huninit hi, hport]
    rfl
  · have hi : ¬ IsInit i := by rintro ⟨_, _, _, _, _, rfl⟩; contradiction
    rw [exec_of_uninitialised huninit hi, hport]
    rfl

/-! ### A step with both ports ready (R177) -/

theorem fetch_of_both_ready {s : State} (hcmd : readyWords s.cmdIn = true) (hev : readyWords s.evIn = true) :
    fetch s = fetchFrom .command s.draw ∨ fetch s = fetchFrom .event s.draw := by
  rw [fetch, hcmd, hev]
  dsimp only
  split
  · exact .inr rfl
  · exact .inl rfl

theorem wordsAfter_eq_drop (ws : List Word) : wordsAfter ws = ws.drop (opLength (ws.headD 0)) := by
  cases ws with
  | nil => exact List.drop_nil.symm
  | cons => rfl

section
variable {s u : State}

theorem step_of_fetchFrom_command (hf : fetch s = fetchFrom .command u) : step s = commandTaken u := by
  rw [step, hf, fetchFrom, commandTaken, State.queue_command, wordsAfter_eq_drop]
  cases decodeAt .command u.cmdIn with
  | ok r => rfl
  | error e => rfl

theorem step_of_fetchFrom_event (hf : fetch s = fetchFrom .event u) : step s = eventTaken u := by
  rw [step, hf, fetchFrom, eventTaken, State.queue_event, wordsAfter_eq_drop]
  cases decodeAt .event u.evIn with
  | ok r => rfl
  | error e => rfl

end

/-- Settles O9: after a draw the fetch is from the one port or from the other, and the step takes what stands at its head. -/
theorem stepTakesCommandOrEventWhenBothReady : Obligations.StepTakesCommandOrEventWhenBothReady := by
  intro s wc we oc oe hcmd hcmdLen hev hevLen
  have hcmdReady : readyWords s.cmdIn = true := hcmd ▸ readyWords_cons.mpr hcmdLen
  have hevReady : readyWords s.evIn = true := hev ▸ readyWords_cons.mpr hevLen
  exact (fetch_of_both_ready hcmdReady hevReady).imp step_of_fetchFrom_command step_of_fetchFrom_event

/-! ### Progress under the literal policy (R172, log entry 2) -/

/-- The operation answers a next state. -/
def Completes (o : Host.Outcome State Fault Refusal) : Prop := ∃ t, o = .next t

namespace Completes
variable {s : State} {body other : Host.Outcome State Fault Refusal}

theorem next (s : State) : Completes (.next s) := ⟨s, rfl⟩

theorem ret (c : Result) (s : State) : Completes (Machine.ret c s) := next _

theorem ite {c : Prop} [Decidable c] (hpos : c → Completes body) (hneg : ¬ c → Completes other) :
    Completes (if c then body else other) := by
  split
  next hc => exact hpos hc
  next hc => exact hneg hc

theorem command (h : s.mod.initialised = true → Completes body) : Completes (Machine.command s body) :=
  ite h fun _ => ret _ s

/-- Before INIT a command answers, so only an initialised block is to be looked at. -/
theorem of_initialised (h : s.mod.initialised = true → Completes (Machine.command s body)) :
    Completes (Machine.command s body) :=
  command fun hinit => command_of_initialised hinit body ▸ h hinit

theorem event (h : s.mod.initialised = true → Completes body) : Completes (Machine.event s body) :=
  ite h fun _ => next s

theorem txCommand {idx : SlotIndex} (h : Completes body) : Completes (Machine.txCommand idx s body) :=
  command fun _ => ite (fun _ => h) fun _ => ret _ s

theorem refuseIf {b : Bool} (hb : b = false) {why : Refusal} (h : Completes body) :
    Completes (Machine.refuseIf b why body) := by
  rw [hb, refuseIf_false]
  exact h

theorem refuseWhen (hliteral : s.params.usage = .literal) {b : Bool} {why : Refusal} (h : Completes body) :
    Completes (Machine.refuseWhen s b why body) := by
  rw [refuseWhen_literal hliteral]
  exact h

theorem enqueue (hcount : s.mod.pendingTransmitCount ≠ 0xFFFF) (i : Nat) : Completes (Machine.enqueue i s) :=
  ite (fun hmax => absurd hmax hcount) fun _ => ret _ _

theorem execInit (txs rxs : Bool) (rate txcap rxcap : BitVec 16) (s : State) :
    Completes (Machine.execInit txs rxs rate txcap rxcap s) := by
  refine ite (fun _ => ?_) fun _ => ret _ _
  split <;> exact ret _ _

theorem execRegrx (hfilter : s.mod.initialised = true → s.mod.hardwareFilteringEnabled = false) (idx : SlotIndex)
    (rtr : Bool) (id mask : CanId) (ctx cb : Word) : Completes (Machine.execRegrx idx rtr id mask ctx cb s) :=
  command fun hinit => ite (fun _ => refuseIf (hfilter hinit) (ret _ _)) fun _ => ret _ _

theorem execRegtx (hliteral : s.params.usage = .literal) (sync : Bool) (idx : SlotIndex) (rtr : Bool) (dlc : BitVec 4)
    (id : CanId) : Completes (Machine.execRegtx sync idx rtr dlc id s) :=
  txCommand (refuseWhen hliteral (refuseWhen hliteral (ret _ _)))

theorem execSend (hliteral : s.params.usage = .literal) (hcount : s.mod.pendingTransmitCount ≠ 0xFFFF) (idx : SlotIndex) :
    Completes (Machine.execSend idx s) := by
  refine txCommand (refuseWhen hliteral (ite (fun _ => ret _ _) fun _ => ite (fun _ => ?_) fun _ => ?_))
  · exact ite (fun _ => ret _ _) fun _ => ret _ _
  · exact enqueue (by simpa using hcount) _

theorem execDrain (hcovers : s.mod.initialised = true → CountCovers s) : Completes (Machine.execDrain s) :=
  of_initialised fun hinit => execDrain_completes (hcovers hinit) hinit

theorem execAbortsync (hcovers : s.mod.initialised = true → CountCovers s) : Completes (Machine.execAbortsync s) :=
  of_initialised fun hinit => execAbortsync_completes (hcovers hinit) hinit

theorem execRxframe (hidle : s.mod.rxBusy = false) (rtr : Bool) (dlc : BitVec 4) (id : CanId) (data : Payload) :
    Completes (Machine.execRxframe rtr dlc id data s) :=
  event fun _ => refuseIf hidle (next _)

end Completes

/-- Settles O55: the literal policy drops the refusals of R102, R104 and R199, the invariant those of R37 and of a count too
low, and the premises those of R33 at 65535 and of R130. -/
theorem literalHardwareAlwaysGoesOn : Obligations.LiteralHardwareAlwaysGoesOn := by
  intro i s hs hliteral hcount hidle
  have hconsistent := State.inv_iff.mp hs
  have hcovers (hinit : s.mod.initialised = true) : CountCovers s := (hconsistent hinit).countFits.covers
  show Completes (exec i s)
  cases i with
  | init txs rxs rate txcap rxcap => exact .execInit txs rxs rate txcap rxcap s
  | setnormal | disable | checkerr => exact Completes.command fun _ => .ret _ _
  | regrx idx rtr id mask ctx cb =>
    exact .execRegrx (fun hinit => (hconsistent hinit).filteringOff) idx rtr id mask ctx cb
  | regtx sync idx rtr dlc id => exact .execRegtx hliteral sync idx rtr dlc id
  | txdata => exact Completes.txCommand (.ret _ _)
  | send idx => exact .execSend hliteral hcount idx
  | drain => exact .execDrain hcovers
  | abortsync => exact .execAbortsync hcovers
  | rxframe rtr dlc id data => exact .execRxframe (hidle rtr dlc id data rfl) rtr dlc id data
  | txconf | cbret => exact Completes.event fun _ => .next _

/-! ### Which command gives which result code (R170, R171) -/

namespace Emits
variable {s : State} {i : Instr}

theorem isInit_of_illegalBaudRate (h : Emits s i (.result .illegalBaudRate)) : IsInit i := by
  cases h with
  | rateUnknown => exact ⟨_, _, _, _, _, rfl⟩

theorem setnormal_or_send_of_hardwareFailure (h : Emits s i (.result .hardwareFailure)) :
    i = .setnormal ∨ ∃ idx, i = .send idx := by
  cases h with
  | enableFailed => exact .inl rfl
  | writeFailed => exact .inr ⟨_, rfl⟩

theorem send_of_transmitOverflow (h : Emits s i (.result .transmitOverflow)) : ∃ idx, i = .send idx := by
  cases h with
  | overflowed => exact ⟨_, rfl⟩

end Emits

theorem filterMap_resultCode_eq_nil {os : List Output} (h : ∀ o ∈ os, isResult o = false) :
    os.filterMap Output.resultCode = [] := by
  refine List.filterMap_eq_nil_iff.mpr fun o ho => ?_
  cases o with
  | result c => exact nomatch h _ ho
  | _ => rfl

theorem resultPort_of_noResult {s t : State} {os : List Output} (htrace : t.trace = s.trace ++ os)
    (hos : ∀ o ∈ os, isResult o = false) : t.resultPort = s.resultPort := by
  rw [State.resultPort, htrace, List.filterMap_append, filterMap_resultCode_eq_nil hos, List.append_nil, State.resultPort]

theorem resultPort_of_result {s t : State} {os : List Output} {c : Result} (htrace : t.trace = s.trace ++ os ++ [.result c])
    (hos : ∀ o ∈ os, isResult o = false) : t.resultPort = s.resultPort ++ [c.code] := by
  rw [State.resultPort, htrace, List.filterMap_append, List.filterMap_append, filterMap_resultCode_eq_nil hos,
    List.append_nil, State.resultPort]
  rfl

/-- Settles O56: the one result among the outputs is on the list of what its command can put out, and its code names it. -/
theorem resultCodesHaveTheirCommands : Obligations.ResultCodesHaveTheirCommands := by
  intro i s t h
  obtain ⟨hcommand, hevent⟩ := outputsPerOperationAreBounded i s t h
  refine ⟨fun hport => ?_, fun hport => ?_⟩
  · obtain ⟨os, htrace, -, hos⟩ := hevent hport
    exact resultPort_of_noResult htrace hos
  · obtain ⟨os, c, htrace, -, hos⟩ := hcommand hport
    have hemits : Emits s i (.result c) := exec_emits h (htrace.trans (List.append_assoc _ _ _)) _ (by simp)
    refine ⟨c.code, resultPort_of_result htrace hos, c.code_le, fun hcode => ?_, fun hcode => ?_, fun hcode => ?_⟩
    · obtain rfl : c = .illegalBaudRate := Result.code_injective hcode
      exact hemits.isInit_of_illegalBaudRate
    · obtain rfl : c = .hardwareFailure := Result.code_injective hcode
      exact hemits.setnormal_or_send_of_hardwareFailure
    · obtain rfl : c = .transmitOverflow := Result.code_injective hcode
      exact hemits.send_of_transmitOverflow

/-! ### Which operation reports and which resets which condition (R184) -/

theorem Condition.number_le (c : Condition) : c.number ≤ 5 := by cases c <;> decide

namespace Emits
variable {s : State} {i : Instr} {c : Condition} {sub v : Word}

theorem emReport_spec (h : Emits s i (.emReport c sub v)) :
    sub = Config.subcode c ∧ (c.number ≤ 3 → i = .checkerr) ∧ (c.number = 4 → ∃ idx, i = .send idx) ∧
      (c.number = 5 → i = .abortsync) := by
  cases h with
  | overflowReported => exact ⟨rfl, nofun, fun _ => ⟨_, rfl⟩, nofun⟩
  | abortReported => exact ⟨rfl, nofun, nofun, fun _ => rfl⟩
  | errorReported hc => exact ⟨rfl, fun _ => rfl, fun h4 => by omega, fun h5 => by omega⟩

theorem emReset_spec (h : Emits s i (.emReset c v)) :
    i = .checkerr ∧ (c.number ≤ 2 ∨ c = clearedOverflow s.params.passiveClears) := by
  cases h with
  | errorReset hc => exact ⟨rfl, hc⟩

end Emits

/-- Settles O57: the list of outputs has a report by each of the three reporters and a reset by CHECKERR only. -/
theorem conditionsHaveTheirReporters : Obligations.ConditionsHaveTheirReporters := by
  intro i s t os c h htrace
  refine ⟨fun sub v ho => ?_, fun v ho => ?_⟩
  · obtain ⟨hsub, hcheck, hsend, habort⟩ := (exec_emits h htrace _ ho).emReport_spec
    exact ⟨hsub, c.number_le, hcheck, hsend, habort⟩
  · obtain ⟨hi, hmonitor | rfl⟩ := (exec_emits h htrace _ ho).emReset_spec
    · exact ⟨hi, by omega, by omega, by omega⟩
    · cases s.params.passiveClears with
      | transmitOverflow => exact ⟨hi, by decide, nofun, fun _ => rfl⟩
      | receiveOverflow => exact ⟨hi, by decide, fun _ => rfl, nofun⟩

end Sys2Proof.Machine
end

section
/-! PROOFS of the statements of spec/70_reset_and_hazards.md: a frame queued before the first confirmation holds back every
transmission (R194), read off the list of effects and the list of outputs. -/

namespace Sys2Proof.Machine

/-- R107: before the first confirmation DRAIN takes nothing from the queue. -/
theorem execDrain_keeps_mod_of_unsent {s : State} (hunsent : s.mod.firstFrameSent = false) :
    NextHolds (fun t => t.mod = s.mod) (execDrain s) := by
  cases hinit : s.mod.initialised with
  | false =>
    rw [execDrain, command_of_uninitialised hinit]
    exact (nextHolds_ret _).mpr rfl
  | true =>
    rw [execDrain_of_unconfirmed hinit hunsent]
    exact (nextHolds_ret _).mpr rfl

/-- Only DRAIN and ABORTSYNC take a frame from the queue, and SEND adds to the count without wrapping (R33). -/
theorem Effect.pendingTransmitCount_ne_zero {s : State} {i : Instr} {m : ModuleState} {l : List SlotIndex}
    (h : Effect s i m l) (hinit : ¬ IsInit i) (hdrain : i ≠ .drain) (habort : i ≠ .abortsync)
    (hcount : s.mod.pendingTransmitCount ≠ 0) : m.pendingTransmitCount ≠ 0 := by
  cases h with
  | initDone | initFailed => exact absurd ⟨_, _, _, _, _, rfl⟩ hinit
  | queued _ _ _ hmax =>
    show s.mod.pendingTransmitCount + 1 ≠ 0
    bv_omega
  | drained => exact absurd rfl hdrain
  | aborted => exact absurd rfl habort
  | _ => exact hcount

/-- A write to the mailbox is SEND's with an empty queue, or DRAIN's after the first confirmation (R106, R107). -/
theorem Emits.count_zero_or_sent_of_htiWrite {s : State} {i : Instr} {f : Frame} (h : Emits s i (.htiWrite f)) :
    s.mod.pendingTransmitCount = 0 ∨ s.mod.firstFrameSent = true := by
  cases h with
  | written hcount => exact .inl hcount
  | drained hsent _ => exact .inr hsent

/-- Settles O48: SEND can only queue behind the frames already queued, and DRAIN waits for the confirmation. -/
theorem queuedFirstFrameBlocksTransmission : Obligations.QueuedFirstFrameBlocksTransmission := by
  intro i s t os h hinit hconf habort hunsent hcount htrace
  have effect : Effect s i t.mod t.txRegistered := exec_affected i s t h
  have hcount' : t.mod.pendingTransmitCount ≠ 0 := by
    by_cases hdrain : i = .drain
    · subst hdrain
      have hmod : t.mod = s.mod := execDrain_keeps_mod_of_unsent hunsent t h
      rwa [hmod]
    · exact effect.pendingTransmitCount_ne_zero hinit hdrain habort hcount
  refine ⟨(effect.keeps_firstFrameSent hinit hconf).trans hunsent, hcount', fun f hf => ?_⟩
  obtain hzero | hsent := (exec_emits h htrace _ hf).count_zero_or_sent_of_htiWrite
  · exact hcount hzero
  · exact absurd hsent (by simp [hunsent])

end Sys2Proof.Machine
end

section
/-! PROOFS of the statements about the encoding and the step as a whole: the rows of the table of spec/30_encoding.md section 5
exclude each other, the worked words of spec/95_test_vectors.md section 2.2 are encodings, and a step without a whole operation at
a port is idle (R71, log entry 6). -/

namespace Sys2Proof

/-! ### The table of section 5: the rows exclude each other -/

/-- Every row has an opcode of its own (R72). -/
theorem EncodingRow.eq_of_opcodeOf_base_eq :
    ∀ r₁ ∈ encodingTable, ∀ r₂ ∈ encodingTable, opcodeOf r₁.base = opcodeOf r₂.base → r₁ = r₂ := by
  decide

/-- Settles O3: a selected row has the opcode of the word, and no two rows share one. -/
theorem headerSelectsAtMostOneRow : Obligations.HeaderSelectsAtMostOneRow := by
  intro r₁ hr₁ r₂ hr₂ w h₁ h₂
  obtain ⟨hop₁, -⟩ := (EncodingRow.selects_iff hr₁ w).mp h₁
  obtain ⟨hop₂, -⟩ := (EncodingRow.selects_iff hr₂ w).mp h₂
  exact EncodingRow.eq_of_opcodeOf_base_eq r₁ hr₁ r₂ hr₂ (hop₁.symm.trans hop₂)

/-! ### Worked words -/

theorem decode_of_encode_eq {i : Instr} {ws : List Word} (h : encode i = ws) : decode ws = .ok (i, []) := by
  have hread := decodeReadsEncodedOperation i []
  rwa [List.append_nil, h] at hread

/-- Settles O4: the words are what the encoder gives for the six operations, and the decoder reads every encoding back. -/
theorem workedWordsDecode : Obligations.WorkedWordsDecode :=
  ⟨decode_of_encode_eq rfl, decode_of_encode_eq rfl, decode_of_encode_eq rfl, decode_of_encode_eq rfl,
    decode_of_encode_eq rfl, decode_of_encode_eq rfl⟩

end Sys2Proof

namespace Sys2Proof.Machine

/-! ### A step with no port ready (R71, R85) -/

theorem fetch_of_none_ready {s : State} (hcmd : readyWords s.cmdIn = false) (hev : readyWords s.evIn = false) :
    fetch s = .idle := by
  rw [fetch, hcmd, hev]

/-- Settles O10: the fetch finds nothing, so the step leaves the state. -/
theorem stepIdlesWithoutWholeOperation : Obligations.StepIdlesWithoutWholeOperation := by
  intro s hcmd hev
  rw [step, fetch_of_none_ready hcmd hev]

end Sys2Proof.Machine
end
